-- ==== Sys2Proof/Word.lean ====
section
/-! DEFINITION. The word types of the ADR core: the 16-bit selector word of R81 (`SelWord`), the 16-bit
DRP data and the 9-bit DRP address of R66, and the one-bit level of an input port. Words whose width is a
configuration parameter (the `W`-bit table words, the `CB`-bit counters, the CORDIC ranks) are plain
numbers with their range kept by an invariant (`Safety.lean`). -/

namespace Sys2Proof

/-- The 16-bit selector word `sel` of R81. -/
abbrev SelWord := BitVec 16

/-- Data of the external DRP register space, 16 bits (R66, R89). -/
abbrev DrpData := BitVec 16

/-- Address of the external DRP register space, 9 bits (R66, R89). -/
abbrev DrpAddr := BitVec 9

/-- A one-bit level: `true` is 1. -/
abbrev Level := Bool

end Sys2Proof
end

