-- ==== Sys2Proof/Syntax.lean ====
section
/-! DEFINITION. The operations of the ADR core (R86): one constructor of `Instr` for every row of
spec/opcode_table.json, in the table's order. The core has no instruction stream (R1, R80); an operation is
what one unit does in one tick, or one configuration-time construction (R15). -/

namespace Sys2Proof

/-- The units that tick, with the codes 0 to 10 of R82. Code 15, `CFG`, is not a unit that ticks: its
operations are the last seven constructors of `Instr`. -/
inductive UnitCode where
  | nco | matcher | acq | cordic | seq | sync2 | degl | wtmr | wdog | txi | rxi
  deriving DecidableEq, Repr

/-- The units that have a configuration operation of their own (R86, R87). -/
inductive ConfigUnit where
  | nco | matcher | acq | cordic | seq | txi | rxi
  deriving DecidableEq, Repr

/-- The two variants of the LinkTrainingFSM (R2). -/
inductive LinkVariant where
  | tx | rx
  deriving DecidableEq, Repr

/-- The fields of a word with `rst = 1` that do not select its operation: the level of the unit's own reset and the
state code (R81, R86). -/
structure RstFields where
  clr : Level
  st : BitVec 4
  deriving DecidableEq, Repr

/-- The 39 operations of R86. `rst` carries the unit that is reset; `rst`, `acqClr` and `seqClr` carry the fields of
the word that do not select them. -/
inductive Instr where
  | rst (unit : UnitCode) (x : RstFields)
  | ncoTick
  | matchShift
  | acqClr (st : BitVec 4)
  | acqSearch
  | acqMeasure
  | acqSample
  | cordicTick
  | seqClr (st : BitVec 4)
  | seqRun
  | seqIdle
  | sync2Tick
  | deglTick
  | wtmrTick
  | wdogTick
  | txiPowerDown
  | txiWaitPllReset
  | txiWaitInitDelay
  | txiWaitGtpReset
  | txiReady
  | rxiPowerDown
  | rxiDrpReadIssue
  | rxiDrpReadWait
  | rxiDrpModIssue
  | rxiDrpModWait
  | rxiWaitPmarstFall
  | rxiDrpRestoreIssue
  | rxiDrpRestoreWait
  | rxiWaitGtpReset
  | rxiAlign
  | rxiWaitAlignDone
  | rxiReady
  | ncoBuild
  | matchConfig
  | acqConfig
  | cordicConfig
  | seqConfig
  | txiConfig
  | rxiConfig
  deriving DecidableEq, Repr

end Sys2Proof
end

