-- ==== Sys2Proof/Config.lean ====
section
/-! DEFINITION. The configuration surfaces of the ADR core (R8): the operands of each configuration
operation, the configuration record and tables each one yields (R26, R27), and the causes of
`ConfigurationError` (R241). A record of this file is a parameter of the step function, never written by a tick
(R20). -/

namespace Sys2Proof

/-- Which bit of a word is the earliest sample (R64). -/
inductive PackOrder where
  | lsbFirst | msbFirst
  deriving DecidableEq, Repr

/-- `GATE_LAT` of R167: the ticks by which `done` is delayed before it forces the sequencer's output to 0,
0 or 2 (R8). -/
inductive GateLat where
  | zero | two
  deriving DecidableEq, Repr

/-- The SymbolTable `base` of R160 as data: the listed symbols have the listed word offset, in units of `WPS`
words, the first entry of a symbol counting, and every other symbol has the default `base(s) = s`
(notes/assumptions/15.md). -/
abbrev BaseMap := List (Nat × Nat)

/-! ### Operands of the configuration operations (R8) -/

/-- The carrier's phase (R8), in the two forms of R103. `turns p` is the phase of `2π·p` radians. `samples l` is
a phase that is no rational multiple of `2π`: the samples `s[0..N-1]` it gives are "a configuration input that
satisfies rule R101". -/
inductive Phase where
  | turns (p : ℚ)
  | samples (l : List Bool)
  deriving DecidableEq, Repr

/-- Operands of `NCO.BUILD` (R100). -/
structure NcoParams where
  sampleRate : ℚ
  frequency : ℚ
  maxError : ℚ
  width : ℤ
  phase : Phase
  maxSamples : ℤ
  zeroSignBit : Bool
  packOrder : PackOrder
  deriving DecidableEq, Repr

/-- Operands of `MATCH.CONFIG` (R120). -/
structure MatchParams where
  pattern : List Bool
  interval : ℤ
  deriving DecidableEq, Repr

/-- Operands of `ACQ.CONFIG` (R129); `none` stands for an operand the caller omits. -/
structure AcqParams where
  sps : Option ℤ
  cntBits : Option ℤ
  deriving DecidableEq, Repr

/-- Operands of `CORDIC.CONFIG` (R140). -/
structure CordicParams where
  bitDepth : ℤ
  stages : ℤ
  deriving DecidableEq, Repr

/-- Operands of `SEQ.CONFIG` (R160). -/
structure SeqParams where
  table : List Nat
  packet : List Nat
  samplesPerSymbol : ℤ
  width : ℤ
  base : BaseMap
  gateLat : GateLat
  deriving DecidableEq, Repr

/-- Operands of `TXI.CONFIG` (R188). -/
structure TxiParams where
  sysClkFreq : ℤ
  bufferEnable : Bool
  watchdogTicks : Option ℤ
  deriving DecidableEq, Repr

/-- Operands of `RXI.CONFIG` (R197). -/
structure RxiParams where
  sysClkFreq : ℤ
  bufferEnable : Bool
  watchdogTicks : Option ℤ
  drpAddr : DrpAddr
  drpModMask : DrpData
  deriving DecidableEq, Repr

/-- The operands last presented to each configuration operation. -/
structure Params where
  nco : NcoParams
  matcher : MatchParams
  acq : AcqParams
  cordic : CordicParams
  seq : SeqParams
  txi : TxiParams
  rxi : RxiParams
  deriving DecidableEq, Repr

/-- One configuration statement of the stimulus script (R90): the unit and its operands. -/
inductive ConfigCall where
  | nco (p : NcoParams)
  | matcher (p : MatchParams)
  | acq (p : AcqParams)
  | cordic (p : CordicParams)
  | seq (p : SeqParams)
  | txi (p : TxiParams)
  | rxi (p : RxiParams)
  deriving DecidableEq, Repr

/-! ### What a configuration operation yields (R26, R27) -/

/-- A configured NCO: `W`, `N`, `cycles` and the PatternTable, whose length is `words` (R100 to R102). -/
structure NcoConfig where
  params : NcoParams
  width : Nat
  period : Nat
  cycles : ℤ
  table : List Nat
  deriving DecidableEq, Repr

/-- A configured matcher: the pattern and the tap spacing `S_m = interval + 1` (R120). -/
structure MatchConfig where
  params : MatchParams
  pattern : List Bool
  spacing : Nat
  deriving DecidableEq, Repr

/-- A configured acquisition FSM: `SPS` and `CB` (R129). -/
structure AcqConfig where
  params : AcqParams
  sps : Nat
  cntBits : Nat
  deriving DecidableEq, Repr

/-- A configured CORDIC pipeline: `B`, `S`, `delta[0..S-1]`, `PI_FIX`, `TWO_PI_FIX` (R140). -/
structure CordicConfig where
  params : CordicParams
  bitDepth : Nat
  stages : Nat
  delta : List ℤ
  piFix : ℤ
  twoPiFix : ℤ
  deriving DecidableEq, Repr

/-- A configured sequencer: `W`, `WPS`, the waveform table, the packet, `base` and `GATE_LAT` (R160). -/
structure SeqConfig where
  params : SeqParams
  width : Nat
  wps : Nat
  table : List Nat
  packet : List Nat
  base : BaseMap
  gateLat : GateLat
  deriving DecidableEq, Repr

/-- A configured TX link-training FSM: `T` and the optional watchdog (R188). -/
structure TxiConfig where
  params : TxiParams
  timerTicks : Nat
  watchdog : Option Nat
  deriving DecidableEq, Repr

/-- A configured RX link-training FSM (R197). -/
structure RxiConfig where
  params : RxiParams
  timerTicks : Nat
  watchdog : Option Nat
  bufferEnable : Bool
  drpAddr : DrpAddr
  drpModMask : DrpData
  deriving DecidableEq, Repr

/-- The instances that exist, one place for each unit that is configured (R270): `none` before a successful
configuration, after a failed one and after the instance is destroyed. -/
structure Instances where
  nco : Option NcoConfig
  matcher : Option MatchConfig
  acq : Option AcqConfig
  cordic : Option CordicConfig
  seq : Option SeqConfig
  txi : Option TxiConfig
  rxi : Option RxiConfig
  deriving DecidableEq, Repr

/-! ### ConfigurationError (R240, R241) -/

/-- The causes of R241, in the order of their codes. `pllNoDivider` and `combCycle` are raised by no unit of
the core (R243). -/
inductive ConfigCause where
  | ncoNoPeriod
  | ncoBadParameter
  | corrBadParameter
  | cordicBadParameter
  | seqBadWindow
  | seqEmptyPacket
  | seqSymbolRange
  | seqWordWidth
  | linkBadClock
  | pllNoDivider
  | combCycle
  deriving DecidableEq, Repr

/-- A `ConfigurationError` as the caller receives it: the cause and the offending parameter set (R241). -/
structure ConfigurationError where
  call : ConfigCall
  cause : ConfigCause
  deriving DecidableEq, Repr

end Sys2Proof
end

