-- ==== Sys2Proof/Machine/Enclosure.lean ====
section
/-! DEFINITION. Enclosures of the real numbers that R140 rounds, on exact integers: two integers over a power of
two with the real number between them, and the nearest integer where both ends have the same one. -/

namespace Sys2Proof.Machine

/-! ### Arctangents of `1/n`

`arctan(1/n) = sum over j of (-1)^j / ((2j+1) n^(2j+1))`. Each term is rounded down or up to an integer over
`2^p`, so that an even number of terms gives a lower bound and an odd number an upper bound. -/

/-- `floor(2^p / ((2j+1) n^(2j+1)))`. -/
def arctanTermDown (n p j : Nat) : ℤ := ((2 ^ p / ((2 * j + 1) * n ^ (2 * j + 1)) : Nat) : ℤ)

/-- `ceil(2^p / ((2j+1) n^(2j+1)))`. -/
def arctanTermUp (n p j : Nat) : ℤ :=
  (((2 ^ p + ((2 * j + 1) * n ^ (2 * j + 1) - 1)) / ((2 * j + 1) * n ^ (2 * j + 1)) : Nat) : ℤ)

/-- A lower bound of `2^p * arctan(1/n)` from `2m` terms. -/
def arctanLow (n p : Nat) : Nat → ℤ
  | 0 => 0
  | m + 1 => arctanLow n p m + arctanTermDown n p (2 * m) - arctanTermUp n p (2 * m + 1)

/-- An upper bound of `2^p * arctan(1/n)` from `2m+1` terms. -/
def arctanHigh (n p : Nat) : Nat → ℤ
  | 0 => arctanTermUp n p 0
  | m + 1 => arctanHigh n p m - arctanTermDown n p (2 * m + 1) + arctanTermUp n p (2 * m + 2)

/-- The pairs of terms that bring the series of `arctan(1/n)`, with `2^b <= n`, within one unit at scale `p`. -/
def arctanPairs (b p : Nat) : Nat := p / (4 * b) + 1

/-- A lower bound of `2^p * pi/4`, by `pi/4 = 4 arctan(1/5) - arctan(1/239)`. -/
def quarterPiLow (p : Nat) : ℤ :=
  4 * arctanLow 5 p (arctanPairs 2 p) - arctanHigh 239 p (arctanPairs 7 p)

/-- An upper bound of `2^p * pi/4`. -/
def quarterPiHigh (p : Nat) : ℤ :=
  4 * arctanHigh 5 p (arctanPairs 2 p) - arctanLow 239 p (arctanPairs 7 p)

/-- A lower bound of `2^p * atan(2^-i)`. -/
def atanLow (p i : Nat) : ℤ :=
  if i = 0 then quarterPiLow p else arctanLow (2 ^ i) p (arctanPairs i p)

/-- An upper bound of `2^p * atan(2^-i)`. -/
def atanHigh (p i : Nat) : ℤ :=
  if i = 0 then quarterPiHigh p else arctanHigh (2 ^ i) p (arctanPairs i p)

/-- The nearest integer to `v / 2^g`, for `g >= 1`. -/
def nearestUnit (g : Nat) (v : ℤ) : ℤ := (v + 2 ^ (g - 1)) / 2 ^ g

/-- The nearest integer to every real between `lo / 2^g` and `hi / 2^g`, where it is the same for all of
them. -/
def nearestBetween (g : Nat) (lo hi : ℤ) : Option ℤ :=
  if nearestUnit g lo = nearestUnit g hi then some (nearestUnit g lo) else none

/-- `round(2^k * atan(2^-i))`, where `g` bits below the unit decide it. -/
def deltaAt (k i g : Nat) : Option ℤ := nearestBetween g (atanLow (k + g) i) (atanHigh (k + g) i)

/-- `round(2^k * pi)`, where `g` bits below the unit decide it. -/
def piAt (k g : Nat) : Option ℤ :=
  nearestBetween g (4 * quarterPiLow (k + g)) (4 * quarterPiHigh (k + g))

/-- `round(2^k * 2 pi)`, where `g` bits below the unit decide it. -/
def twoPiAt (k g : Nat) : Option ℤ :=
  nearestBetween g (8 * quarterPiLow (k + g)) (8 * quarterPiHigh (k + g))

end Sys2Proof.Machine
end

