-- ==== Sys2Proof/Laws/Arctan.lean ====
section
/-! SUPPORT. The enclosures of Machine/Enclosure.lean hold the real numbers R140 rounds, and some number of bits
always decides the rounding: the enclosures close in, and none of the numbers is a tie, because `arctan(1/n)` is
irrational. The search for the constants of R140 (Machine/Arith.lean) ends by these facts. -/

namespace Sys2Proof.Laws

open Sys2Proof.Machine

/-! ### Irrationality -/

open Polynomial in
/-- `b^d g(2ia/b)` is a Gaussian integer for an integer polynomial `g` of degree at most `d`. -/
theorem exists_gaussianInt_of_aeval (g : ℤ[X]) (d : ℕ) (hd : g.natDegree ≤ d) (a : ℤ) (b : ℕ) (hb : b ≠ 0) :
    ∃ z : GaussianInt, (z : ℂ) = (b : ℂ) ^ d * aeval (2 * Complex.I * a / b : ℂ) g := by
  refine ⟨∑ j ∈ Finset.range (d + 1), (g.coeff j : GaussianInt) * (b : GaussianInt) ^ (d - j)
    * (2 * ⟨0, 1⟩ * (a : GaussianInt)) ^ j, ?_⟩
  rw [aeval_eq_sum_range' (Nat.lt_succ_of_le hd), Finset.mul_sum, map_sum]
  refine Finset.sum_congr rfl fun j hj => ?_
  have hb' : (b : ℂ) ≠ 0 := Nat.cast_ne_zero.mpr hb
  have hi : GaussianInt.toComplex ⟨0, 1⟩ = Complex.I := by simp [GaussianInt.toComplex_def]
  have hj' : j ≤ d := Nat.lt_succ_iff.mp (Finset.mem_range.mp hj)
  simp only [map_mul, map_pow, map_intCast, map_natCast, map_ofNat, hi, zsmul_eq_mul, div_pow]
  rw [show (b : ℂ) ^ d = (b : ℂ) ^ (d - j) * (b : ℂ) ^ j by rw [← pow_add, Nat.sub_add_cancel hj']]
  field_simp

/-- `exp(2i arctan(1/n)) = (n+i)/(n-i)`. -/
theorem exp_two_arctan_inv (n : ℕ) (hn : 1 ≤ n) :
    ((n : ℂ) - Complex.I) * Complex.exp (2 * Complex.I * (Real.arctan (n : ℝ)⁻¹ : ℝ)) = n + Complex.I := by
  set θ := Real.arctan (n : ℝ)⁻¹
  have hn0 : (n : ℝ) ≠ 0 := by positivity
  have hc : Real.cos θ ≠ 0 := (Real.cos_arctan_pos _).ne'
  have ht : (n : ℝ) * Real.sin θ = Real.cos θ := by
    have := Real.tan_arctan (n : ℝ)⁻¹
    rw [Real.tan_eq_sin_div_cos, div_eq_iff hc] at this
    rw [this]; field_simp
  have h1 := Real.sin_sq_add_cos_sq θ
  have htC : (n : ℂ) * Complex.sin θ = Complex.cos θ := by exact_mod_cast congrArg Complex.ofReal ht
  have h1C : Complex.sin θ ^ 2 + Complex.cos θ ^ 2 = 1 := Complex.sin_sq_add_cos_sq θ
  have he : Complex.exp (2 * Complex.I * θ) = (Complex.cos θ + Complex.sin θ * Complex.I) ^ 2 := by
    rw [← Complex.exp_mul_I, ← Complex.exp_nat_mul]; congr 1; push_cast; ring
  rw [he, ← htC]
  rw [← htC] at h1C
  have hI : Complex.I ^ 2 = -1 := Complex.I_sq
  linear_combination (n + Complex.I) * h1C - Complex.sin θ ^ 2 * (n + Complex.I) * hI

/-- `arctan(1/n)` is irrational: were it `a/b`, the approximations of `exp(2ia/b)` by values of integer
polynomials would be too good for `(n+i)/(n-i)`. -/
theorem irrational_arctan_inv (n : ℕ) (hn : 1 ≤ n) : Irrational (Real.arctan (n : ℝ)⁻¹) := by
  rintro ⟨q, hq⟩
  have hpos : 0 < Real.arctan (n : ℝ)⁻¹ := Real.arctan_pos.mpr (by positivity)
  have hnum : q.num ≠ 0 := by
    rintro h
    rw [← hq, Rat.num_eq_zero.mp h] at hpos
    simp at hpos
  set b := q.den
  set a := q.num
  have hb : b ≠ 0 := q.den_nz
  have hbC : (b : ℂ) ≠ 0 := Nat.cast_ne_zero.mpr hb
  set r : ℂ := 2 * Complex.I * a / b
  have hr : (n - Complex.I) * Complex.exp r = n + Complex.I := by
    rw [← exp_two_arctan_inv n hn, ← hq]
    congr 3
    simp only [r]
    rw [show ((q : ℝ) : ℂ) = (a : ℂ) / b by rw [Complex.ofReal_ratCast]; exact Rat.cast_def q]
    ring
  let f : Polynomial ℤ := .C ((b : ℤ) ^ 2) * .X ^ 2 + .C (4 * a ^ 2)
  have hb2 : ((b : ℤ) ^ 2) ≠ 0 := by positivity
  have hf0 : f.eval 0 = 4 * a ^ 2 := by simp [f]
  have hdeg : f.natDegree = 2 := by
    simp only [f]
    compute_degree!
  have hfne : f ≠ 0 := by rintro h; simp [h] at hdeg
  have hroot : r ∈ f.aroots ℂ := by
    rw [Polynomial.mem_aroots]
    refine ⟨hfne, ?_⟩
    simp only [f, r, map_add, map_mul, map_pow, Polynomial.aeval_X, Polynomial.aeval_C]
    have hI : Complex.I ^ 2 = -1 := Complex.I_sq
    simp only [algebraMap_int_eq, eq_intCast, Int.cast_natCast, Int.cast_ofNat]
    field_simp
    linear_combination 4 * (a : ℂ) ^ 2 * hI
  obtain ⟨c, hc⟩ := LindemannWeierstrass.exp_polynomial_approx f (by rw [hf0]; positivity)
  have hlim : Filter.Tendsto (fun p : ℕ => ‖(n : ℂ) - Complex.I‖ * (|(b : ℝ) ^ 2 * c|
      * (|(b : ℝ) ^ 2 * c| ^ p / p.factorial))) Filter.atTop (nhds 0) := by
    simpa only [mul_zero] using ((FloorSemiring.tendsto_pow_div_factorial_atTop |(b : ℝ) ^ 2 * c|).const_mul |(b : ℝ) ^ 2 * c|).const_mul
      ‖(n : ℂ) - Complex.I‖
  obtain ⟨P, hP⟩ := Filter.eventually_atTop.mp (hlim.eventually_lt_const (one_pos : (0 : ℝ) < 1))
  obtain ⟨p, hp, hprime⟩ := Nat.exists_infinite_primes (P + (Polynomial.eval 0 f).natAbs + b + 2)
  obtain ⟨N, hN, g, hg, happ⟩ := hc p (by omega) hprime
  have hbound := happ hroot
  rw [hdeg] at hg
  obtain ⟨z, hz⟩ := exists_gaussianInt_of_aeval g (p * 2 - 1) hg a b hb
  have hI : GaussianInt.toComplex ⟨0, 1⟩ = Complex.I := by simp [GaussianInt.toComplex_def]
  let w : GaussianInt := (b : GaussianInt) ^ (p * 2 - 1) * N * (n + ⟨0, 1⟩) - p * ((n - ⟨0, 1⟩) * z)
  have hw : (w : ℂ) = ((n : ℂ) - Complex.I) * ((b : ℂ) ^ (p * 2 - 1)
      * (N • Complex.exp r - p • Polynomial.aeval r g)) := by
    simp only [w, map_sub, map_mul, map_pow, map_natCast, map_intCast, map_add, hI, hz, zsmul_eq_mul,
      nsmul_eq_mul]
    linear_combination -((b : ℂ) ^ (p * 2 - 1) * N) * hr
  have hsmall : ‖(w : ℂ)‖ < 1 := by
    refine lt_of_le_of_lt ?_ (hP (p - 1) (by omega))
    rw [hw, norm_mul, norm_mul]
    refine mul_le_mul_of_nonneg_left ?_ (norm_nonneg _)
    have h1 : ‖(b : ℂ) ^ (p * 2 - 1)‖ ≤ ((b : ℝ) ^ 2) ^ p := by
      rw [norm_pow, Complex.norm_natCast, ← pow_mul]
      exact pow_le_pow_right₀ (by exact_mod_cast Nat.one_le_iff_ne_zero.mpr hb) (by omega)
    have h2 : c ^ p / ((p - 1).factorial : ℝ) ≤ |c| ^ p / ((p - 1).factorial : ℝ) :=
      div_le_div_of_nonneg_right ((le_abs_self _).trans (abs_pow c p).le) (by positivity)
    calc _ ≤ ((b : ℝ) ^ 2) ^ p * (|c| ^ p / ((p - 1).factorial : ℝ)) :=
          mul_le_mul h1 (hbound.trans h2) (norm_nonneg _) (by positivity)
      _ = _ := by
          rw [abs_mul, abs_of_nonneg (by positivity : (0 : ℝ) ≤ (b : ℝ) ^ 2), ← mul_div_assoc, ← mul_div_assoc,
            ← mul_pow, ← pow_succ', Nat.sub_add_cancel hprime.one_le]
  have hw0 : w = 0 := by
    by_contra h
    have h1 : 1 ≤ w.norm := by
      have := GaussianInt.norm_pos.mpr h
      omega
    have h2 : (w.norm : ℝ) = ‖(w : ℂ)‖ ^ 2 := by
      rw [← Complex.normSq_eq_norm_sq, GaussianInt.intCast_real_norm]
    have h3 : (1 : ℝ) ≤ ‖(w : ℂ)‖ ^ 2 := by rw [← h2]; exact_mod_cast h1
    nlinarith [norm_nonneg (w : ℂ)]
  have him : (b : ℤ) ^ (p * 2 - 1) * N = p * ((n - ⟨0, 1⟩ : GaussianInt) * z).im := by
    have h := congrArg Zsqrtd.im (sub_eq_zero.mp hw0)
    have e1 : (b : GaussianInt) ^ (p * 2 - 1) * N = (((b : ℤ) ^ (p * 2 - 1) * N : ℤ) : GaussianInt) := by
      push_cast; rfl
    have e2 : (p : GaussianInt) = ((p : ℤ) : GaussianInt) := by push_cast; rfl
    rw [e1, e2, Zsqrtd.im_smul, Zsqrtd.im_smul] at h
    simpa using h
  have hdvd : (p : ℤ) ∣ (b : ℤ) ^ (p * 2 - 1) * N := ⟨_, him⟩
  rcases (Nat.prime_iff_prime_int.mp hprime).dvd_or_dvd hdvd with h | h
  · have h' := (Nat.prime_iff_prime_int.mp hprime).dvd_of_dvd_pow h
    have := Nat.le_of_dvd (Nat.pos_of_ne_zero hb) (Int.natCast_dvd_natCast.mp h')
    omega
  · exact hN h

/-! ### The series of `arctan(1/n)` -/

/-- The size of term `j`. -/
noncomputable def arctanTerm (n j : ℕ) : ℝ := 1 / ((2 * j + 1) * (n : ℝ) ^ (2 * j + 1))

theorem arctanTerm_nonneg (n j : ℕ) : 0 ≤ arctanTerm n j := by unfold arctanTerm; positivity

theorem arctanTerm_antitone {n : ℕ} (hn : 1 ≤ n) : Antitone (arctanTerm n) := by
  intro i j h
  have hn' : (1 : ℝ) ≤ n := by exact_mod_cast hn
  have hi : (0 : ℝ) < (n : ℝ) ^ (2 * i + 1) := by positivity
  unfold arctanTerm
  gcongr

theorem arctan_series_tendsto {n : ℕ} (hn : 2 ≤ n) :
    Filter.Tendsto (fun m => ∑ j ∈ Finset.range m, (-1 : ℝ) ^ j * arctanTerm n j) Filter.atTop
      (nhds (Real.arctan (n : ℝ)⁻¹)) := by
  have hn' : (2 : ℝ) ≤ n := by exact_mod_cast hn
  have hx : ‖(n : ℝ)⁻¹‖ < 1 := by
    rw [Real.norm_of_nonneg (by positivity)]
    exact inv_lt_one_of_one_lt₀ (by linarith)
  refine (Real.hasSum_arctan hx).tendsto_sum_nat.congr fun m => Finset.sum_congr rfl fun j _ => ?_
  have h0 : (n : ℝ) ≠ 0 := by positivity
  unfold arctanTerm
  push_cast
  rw [inv_pow]
  field_simp

theorem arctanTermDown_le (n p j : ℕ) : (arctanTermDown n p j : ℝ) ≤ 2 ^ p * arctanTerm n j := by
  unfold arctanTermDown arctanTerm
  refine (Nat.cast_div_le (α := ℝ)).trans (le_of_eq ?_)
  push_cast
  exact (mul_one_div _ _).symm

theorem le_arctanTermDown {n : ℕ} (hn : 1 ≤ n) (p j : ℕ) :
    2 ^ p * arctanTerm n j - 1 ≤ arctanTermDown n p j := by
  have hd : 0 < (2 * j + 1) * n ^ (2 * j + 1) := by positivity
  have h := Nat.lt_div_mul_add (a := 2 ^ p) hd
  have h' : (2 : ℝ) ^ p < (2 ^ p / ((2 * j + 1) * n ^ (2 * j + 1)) : ℕ) * ((2 * j + 1) * (n : ℝ) ^ (2 * j + 1))
      + (2 * j + 1) * (n : ℝ) ^ (2 * j + 1) := by exact_mod_cast h
  have hd' : (0 : ℝ) < (2 * j + 1) * (n : ℝ) ^ (2 * j + 1) := by positivity
  unfold arctanTermDown arctanTerm
  rw [mul_one_div, sub_le_iff_le_add, div_le_iff₀ hd', Int.cast_natCast]
  linarith

theorem le_arctanTermUp {n : ℕ} (hn : 1 ≤ n) (p j : ℕ) :
    2 ^ p * arctanTerm n j ≤ arctanTermUp n p j := by
  have hd : 0 < (2 * j + 1) * n ^ (2 * j + 1) := by positivity
  have h := Nat.lt_div_mul_add (a := 2 ^ p + ((2 * j + 1) * n ^ (2 * j + 1) - 1)) hd
  have h1 : 2 ^ p ≤ (2 ^ p + ((2 * j + 1) * n ^ (2 * j + 1) - 1)) / ((2 * j + 1) * n ^ (2 * j + 1))
      * ((2 * j + 1) * n ^ (2 * j + 1)) := by omega
  have hd' : (0 : ℝ) < (2 * j + 1) * (n : ℝ) ^ (2 * j + 1) := by positivity
  unfold arctanTermUp arctanTerm
  rw [mul_one_div, div_le_iff₀ hd', Int.cast_natCast]
  exact_mod_cast h1

theorem arctanTermUp_le {n : ℕ} (hn : 1 ≤ n) (p j : ℕ) :
    (arctanTermUp n p j : ℝ) ≤ 2 ^ p * arctanTerm n j + 1 := by
  have hd : 0 < (2 * j + 1) * n ^ (2 * j + 1) := by positivity
  have h := Nat.div_mul_le_self (2 ^ p + ((2 * j + 1) * n ^ (2 * j + 1) - 1)) ((2 * j + 1) * n ^ (2 * j + 1))
  have h1 : (2 ^ p + ((2 * j + 1) * n ^ (2 * j + 1) - 1)) / ((2 * j + 1) * n ^ (2 * j + 1))
      * ((2 * j + 1) * n ^ (2 * j + 1)) ≤ 2 ^ p + (2 * j + 1) * n ^ (2 * j + 1) := by omega
  have hd' : (0 : ℝ) < (2 * j + 1) * (n : ℝ) ^ (2 * j + 1) := by positivity
  have h2 : (((2 ^ p + ((2 * j + 1) * n ^ (2 * j + 1) - 1)) / ((2 * j + 1) * n ^ (2 * j + 1)) : ℕ) : ℝ)
      * ((2 * j + 1) * (n : ℝ) ^ (2 * j + 1)) ≤ 2 ^ p + (2 * j + 1) * (n : ℝ) ^ (2 * j + 1) := by
    exact_mod_cast h1
  unfold arctanTermUp arctanTerm
  rw [mul_one_div, ← sub_le_iff_le_add, Int.cast_natCast, le_div_iff₀ hd']
  linarith

/-- `2m` terms, each rounded by less than 1. -/
theorem arctanLow_near {n : ℕ} (hn : 1 ≤ n) (p m : ℕ) :
    (arctanLow n p m : ℝ) ≤ 2 ^ p * ∑ j ∈ Finset.range (2 * m), (-1 : ℝ) ^ j * arctanTerm n j ∧
    2 ^ p * ∑ j ∈ Finset.range (2 * m), (-1 : ℝ) ^ j * arctanTerm n j ≤ arctanLow n p m + 2 * m := by
  induction m with
  | zero => simp [arctanLow]
  | succ m ih =>
    have h1 := arctanTermDown_le n p (2 * m)
    have h2 := le_arctanTermDown hn p (2 * m)
    have h3 := le_arctanTermUp hn p (2 * m + 1)
    have h4 := arctanTermUp_le hn p (2 * m + 1)
    have e0 : (-1 : ℝ) ^ (2 * m) = 1 := by simp
    have e1 : (-1 : ℝ) ^ (2 * m + 1) = -1 := by rw [pow_succ, e0, one_mul]
    rw [show 2 * (m + 1) = 2 * m + 1 + 1 by ring, Finset.sum_range_succ, Finset.sum_range_succ, e0, e1, mul_add,
      mul_add]
    rw [arctanLow]
    push_cast
    constructor <;> linarith [ih.1, ih.2]

/-- `2m+1` terms, each rounded by less than 1. -/
theorem arctanHigh_near {n : ℕ} (hn : 1 ≤ n) (p m : ℕ) :
    2 ^ p * ∑ j ∈ Finset.range (2 * m + 1), (-1 : ℝ) ^ j * arctanTerm n j ≤ arctanHigh n p m ∧
    (arctanHigh n p m : ℝ) ≤
      2 ^ p * ∑ j ∈ Finset.range (2 * m + 1), (-1 : ℝ) ^ j * arctanTerm n j + (2 * m + 1) := by
  induction m with
  | zero =>
    have h1 := le_arctanTermUp hn p 0
    have h2 := arctanTermUp_le hn p 0
    simp only [arctanHigh, Finset.range_one, mul_zero, zero_add, Finset.sum_singleton, pow_zero, one_mul,
      CharP.cast_eq_zero]
    exact ⟨h1, h2⟩
  | succ m ih =>
    have h1 := arctanTermDown_le n p (2 * m + 1)
    have h2 := le_arctanTermDown hn p (2 * m + 1)
    have h3 := le_arctanTermUp hn p (2 * m + 2)
    have h4 := arctanTermUp_le hn p (2 * m + 2)
    have e1 : (-1 : ℝ) ^ (2 * m + 1) = -1 := by simp [pow_succ]
    have e2 : (-1 : ℝ) ^ (2 * m + 2) = 1 := by simp [pow_add]
    rw [show 2 * (m + 1) + 1 = 2 * m + 2 + 1 by ring, Finset.sum_range_succ, Finset.sum_range_succ, e1, e2, mul_add,
      mul_add]
    rw [arctanHigh]
    push_cast
    constructor <;> linarith [ih.1, ih.2]

/-- Both ends are on their side of `2^p arctan(1/n)`. -/
theorem arctan_enclosed {n : ℕ} (hn : 2 ≤ n) (p m m' : ℕ) :
    (arctanLow n p m : ℝ) ≤ 2 ^ p * Real.arctan (n : ℝ)⁻¹ ∧
    2 ^ p * Real.arctan (n : ℝ)⁻¹ ≤ arctanHigh n p m' := by
  have hn1 : 1 ≤ n := by omega
  have ha := arctanTerm_antitone hn1
  have ht := arctan_series_tendsto hn
  constructor
  · exact (arctanLow_near hn1 p m).1.trans
      (mul_le_mul_of_nonneg_left (ha.alternating_series_le_tendsto ht m) (by positivity))
  · exact (mul_le_mul_of_nonneg_left (ha.tendsto_le_alternating_series ht m') (by positivity)).trans
      (arctanHigh_near hn1 p m').1

/-- With the pairs of terms taken, the ends are at most `p + 6` apart. -/
theorem arctan_width {n b : ℕ} (hb : 1 ≤ b) (hn : 2 ^ b ≤ n) (p : ℕ) :
    (arctanHigh n p (arctanPairs b p) : ℝ) - arctanLow n p (arctanPairs b p) ≤ p + 6 := by
  have hn1 : 1 ≤ n := (Nat.one_le_two_pow).trans hn
  set m := arctanPairs b p with hm
  have h1 := (arctanHigh_near hn1 p m).2
  have h2 := (arctanLow_near hn1 p m).2
  rw [Finset.sum_range_succ, pow_mul, neg_one_sq, one_pow, one_mul, mul_add] at h1
  have hp : p ≤ b * (4 * m + 1) := by
    have := Nat.lt_div_mul_add (a := p) (b := 4 * b) (by omega)
    have e : b * (4 * m + 1) = p / (4 * b) * (4 * b) + 4 * b + b := by rw [hm, arctanPairs]; ring
    omega
  have hq : 4 * m ≤ p + 4 := by
    have h3 : p / (4 * b) ≤ p / 4 := Nat.div_le_div_left (by omega) (by omega)
    have h4 := Nat.div_mul_le_self p 4
    rw [hm, arctanPairs]
    omega
  have ht : 2 ^ p * arctanTerm n (2 * m) ≤ 1 := by
    have h3 : 2 ^ p ≤ n ^ (2 * (2 * m) + 1) := by
      calc 2 ^ p ≤ 2 ^ (b * (4 * m + 1)) := Nat.pow_le_pow_right (by norm_num) hp
        _ = (2 ^ b) ^ (2 * (2 * m) + 1) := by rw [← pow_mul]; congr 1; ring
        _ ≤ n ^ (2 * (2 * m) + 1) := Nat.pow_le_pow_left hn _
    have h4 : (2 : ℝ) ^ p ≤ (n : ℝ) ^ (2 * (2 * m) + 1) := by exact_mod_cast h3
    have h5 : (0 : ℝ) < (n : ℝ) ^ (2 * (2 * m) + 1) := by positivity
    unfold arctanTerm
    rw [mul_one_div, div_le_one (by positivity)]
    refine h4.trans (le_mul_of_one_le_left h5.le ?_)
    have : (0 : ℝ) ≤ ((2 * m : ℕ) : ℝ) := by positivity
    linarith
  have hq' : (4 : ℝ) * m ≤ p + 4 := by exact_mod_cast hq
  linarith

/-! ### The numbers of R140 -/

theorem quarterPi_enclosed (p : ℕ) :
    (quarterPiLow p : ℝ) ≤ 2 ^ p * (Real.pi / 4) ∧ 2 ^ p * (Real.pi / 4) ≤ quarterPiHigh p := by
  have h5 := arctan_enclosed (n := 5) (by norm_num) p (arctanPairs 2 p) (arctanPairs 2 p)
  have h239 := arctan_enclosed (n := 239) (by norm_num) p (arctanPairs 7 p) (arctanPairs 7 p)
  rw [← Real.four_mul_arctan_inv_5_sub_arctan_inv_239]
  push_cast at h5 h239
  unfold quarterPiLow quarterPiHigh
  push_cast
  constructor <;> linarith [h5.1, h5.2, h239.1, h239.2]

theorem quarterPi_width (p : ℕ) : (quarterPiHigh p : ℝ) - quarterPiLow p ≤ 5 * (p + 6) := by
  have h5 := arctan_width (n := 5) (b := 2) (by norm_num) (by norm_num) p
  have h239 := arctan_width (n := 239) (b := 7) (by norm_num) (by norm_num) p
  unfold quarterPiLow quarterPiHigh
  push_cast
  linarith

theorem atan_enclosed (p i : ℕ) :
    (atanLow p i : ℝ) ≤ 2 ^ p * Real.arctan ((2 : ℝ)⁻¹ ^ i) ∧
    2 ^ p * Real.arctan ((2 : ℝ)⁻¹ ^ i) ≤ atanHigh p i := by
  unfold atanLow atanHigh
  split
  · subst_vars
    simpa using quarterPi_enclosed p
  · rename_i h
    have h2 : 2 ≤ 2 ^ i := Nat.le_self_pow h 2
    have := arctan_enclosed h2 p (arctanPairs i p) (arctanPairs i p)
    push_cast at this
    rwa [← inv_pow] at this

theorem atan_width (p i : ℕ) : (atanHigh p i : ℝ) - atanLow p i ≤ 5 * (p + 6) := by
  unfold atanLow atanHigh
  split
  · exact quarterPi_width p
  · rename_i h
    refine (arctan_width (b := i) (by omega) le_rfl p).trans ?_
    have : (0 : ℝ) ≤ p := by positivity
    linarith

theorem irrational_atan (i : ℕ) : Irrational (Real.arctan ((2 : ℝ)⁻¹ ^ i)) := by
  have := irrational_arctan_inv (2 ^ i) Nat.one_le_two_pow
  push_cast at this
  rwa [← inv_pow] at this

/-! ### Rounding -/

theorem nearestUnit_eq_floor {g : ℕ} (hg : 1 ≤ g) (v : ℤ) :
    nearestUnit g v = ⌊(v : ℝ) / 2 ^ g + 1 / 2⌋ := by
  have h2 : (2 : ℝ) ^ g = 2 * 2 ^ (g - 1) := by rw [← pow_succ', Nat.sub_add_cancel hg]
  have e : (v : ℝ) / 2 ^ g + 1 / 2 = ((v + 2 ^ (g - 1) : ℤ) : ℝ) / ((2 ^ g : ℕ) : ℝ) := by
    push_cast
    rw [h2]
    field_simp
  rw [e, Int.floor_div_natCast, Int.floor_intCast]
  simp [nearestUnit]

/-- What the enclosure decides is the nearest integer. -/
theorem nearestBetween_eq_round {g : ℕ} (hg : 1 ≤ g) {lo hi m : ℤ} {x : ℝ} (hlo : (lo : ℝ) ≤ 2 ^ g * x)
    (hhi : 2 ^ g * x ≤ hi) (h : nearestBetween g lo hi = some m) : m = round x := by
  unfold nearestBetween at h
  split at h
  · rename_i heq
    cases h
    have hp : (0 : ℝ) < 2 ^ g := by positivity
    have h1 : (lo : ℝ) / 2 ^ g ≤ x := by rw [div_le_iff₀ hp]; linarith
    have h2 : x ≤ (hi : ℝ) / 2 ^ g := by rw [le_div_iff₀ hp]; linarith
    rw [round_eq]
    refine le_antisymm ?_ ?_
    · rw [nearestUnit_eq_floor hg]; exact Int.floor_le_floor (by linarith)
    · rw [heq, nearestUnit_eq_floor hg]; exact Int.floor_le_floor (by linarith)
  · cases h

/-- An enclosure that closes in on an irrational number decides its nearest integer at last. -/
theorem exists_nearestBetween {x : ℝ} (hx : Irrational x) {lo hi : ℕ → ℤ} {a : ℝ}
    (hlo : ∀ g, (lo g : ℝ) ≤ 2 ^ g * x) (hhi : ∀ g, 2 ^ g * x ≤ hi g)
    (hw : ∀ g, (hi g : ℝ) - lo g ≤ a * (g + 1)) :
    ∃ g, (nearestBetween (g + 1) (lo (g + 1)) (hi (g + 1))).isSome = true := by
  obtain ⟨m, hm1, hm2⟩ : ∃ m : ℤ, (m : ℝ) < x + 1 / 2 ∧ x + 1 / 2 < m + 1 := by
    refine ⟨⌊x + 1 / 2⌋, lt_of_le_of_ne (Int.floor_le _) fun h => ?_, Int.lt_floor_add_one _⟩
    exact hx ⟨(⌊x + 1 / 2⌋ : ℚ) - 1 / 2, by push_cast; linarith⟩
  set ε := min (x + 1 / 2 - m) (m + 1 - (x + 1 / 2)) with hε
  have hε0 : 0 < ε := lt_min (by linarith) (by linarith)
  have hlim : Filter.Tendsto (fun g : ℕ => a * ((((g + 2 : ℕ) : ℝ) ^ 1 * (1 / 2 : ℝ) ^ (g + 2)) * 2))
      Filter.atTop (nhds 0) := by
    have h := (tendsto_pow_const_mul_const_pow_of_abs_lt_one 1 (r := (1 / 2 : ℝ))
      (by rw [abs_of_pos] <;> norm_num)).comp (Filter.tendsto_add_atTop_nat 2)
    simpa only [zero_mul, mul_zero, Function.comp_def] using ((h.mul_const 2).const_mul a)
  obtain ⟨g, hg⟩ := (hlim.eventually_lt_const hε0).exists
  refine ⟨g, ?_⟩
  have hp : (0 : ℝ) < 2 ^ (g + 1) := by positivity
  have hw' : ((hi (g + 1) : ℝ) - lo (g + 1)) / 2 ^ (g + 1) < ε := by
    refine lt_of_le_of_lt ?_ hg
    rw [div_le_iff₀ hp]
    refine (hw (g + 1)).trans (le_of_eq ?_)
    rw [pow_succ (1 / 2 : ℝ) (g + 1), one_div, inv_pow]
    field_simp
    push_cast
    ring
  have h1 : (lo (g + 1) : ℝ) / 2 ^ (g + 1) ≤ x := by rw [div_le_iff₀ hp]; linarith [hlo (g + 1)]
  have h2 : x ≤ (hi (g + 1) : ℝ) / 2 ^ (g + 1) := by rw [le_div_iff₀ hp]; linarith [hhi (g + 1)]
  rw [sub_div] at hw'
  have e1 := hw'.trans_le (min_le_left _ _)
  have e2 := hw'.trans_le (min_le_right _ _)
  have hl : nearestUnit (g + 1) (lo (g + 1)) = m := by
    rw [nearestUnit_eq_floor (by omega), Int.floor_eq_iff]
    constructor <;> linarith
  have hh : nearestUnit (g + 1) (hi (g + 1)) = m := by
    rw [nearestUnit_eq_floor (by omega), Int.floor_eq_iff]
    constructor <;> linarith
  simp [nearestBetween, hl, hh]

/-! ### Each constant of R140 is decided, and rightly -/

theorem scaled_enclosed {lo hi : ℝ} {k g : ℕ} {θ : ℝ} (c : ℝ) (hc : 0 ≤ c)
    (h : lo ≤ 2 ^ (k + g) * θ ∧ 2 ^ (k + g) * θ ≤ hi) :
    c * lo ≤ 2 ^ g * (2 ^ k * (c * θ)) ∧ 2 ^ g * (2 ^ k * (c * θ)) ≤ c * hi := by
  have e : (2 : ℝ) ^ g * (2 ^ k * (c * θ)) = c * (2 ^ (k + g) * θ) := by rw [pow_add]; ring
  rw [e]
  exact ⟨mul_le_mul_of_nonneg_left h.1 hc, mul_le_mul_of_nonneg_left h.2 hc⟩

theorem irrational_scaled (k : ℕ) {θ : ℝ} (h : Irrational θ) : Irrational (2 ^ k * θ) := by
  have := h.ratCast_mul (q := 2 ^ k) (by positivity)
  push_cast at this
  exact this

theorem deltaAt_enclosed (k i g : ℕ) :
    (atanLow (k + g) i : ℝ) ≤ 2 ^ g * (2 ^ k * Real.arctan ((2 : ℝ)⁻¹ ^ i)) ∧
    2 ^ g * (2 ^ k * Real.arctan ((2 : ℝ)⁻¹ ^ i)) ≤ atanHigh (k + g) i := by
  simpa using scaled_enclosed 1 one_pos.le (atan_enclosed (k + g) i)

theorem piAt_enclosed (k g : ℕ) :
    ((4 * quarterPiLow (k + g) : ℤ) : ℝ) ≤ 2 ^ g * (2 ^ k * Real.pi) ∧
    2 ^ g * (2 ^ k * Real.pi) ≤ ((4 * quarterPiHigh (k + g) : ℤ) : ℝ) := by
  have := scaled_enclosed 4 (by norm_num) (quarterPi_enclosed (k + g))
  rw [mul_div_cancel₀ _ (by norm_num : (4 : ℝ) ≠ 0)] at this
  exact_mod_cast this

theorem twoPiAt_enclosed (k g : ℕ) :
    ((8 * quarterPiLow (k + g) : ℤ) : ℝ) ≤ 2 ^ g * (2 ^ k * (2 * Real.pi)) ∧
    2 ^ g * (2 ^ k * (2 * Real.pi)) ≤ ((8 * quarterPiHigh (k + g) : ℤ) : ℝ) := by
  have := scaled_enclosed 8 (by norm_num) (quarterPi_enclosed (k + g))
  rw [show (8 : ℝ) * (Real.pi / 4) = 2 * Real.pi by ring] at this
  exact_mod_cast this

theorem deltaAt_eq_round {k i g : ℕ} {m : ℤ} (hg : 1 ≤ g) (h : deltaAt k i g = some m) :
    m = round ((2 : ℝ) ^ k * Real.arctan ((2 : ℝ)⁻¹ ^ i)) :=
  nearestBetween_eq_round hg (deltaAt_enclosed k i g).1 (deltaAt_enclosed k i g).2 h

theorem piAt_eq_round {k g : ℕ} {m : ℤ} (hg : 1 ≤ g) (h : piAt k g = some m) :
    m = round ((2 : ℝ) ^ k * Real.pi) :=
  nearestBetween_eq_round hg (piAt_enclosed k g).1 (piAt_enclosed k g).2 h

theorem twoPiAt_eq_round {k g : ℕ} {m : ℤ} (hg : 1 ≤ g) (h : twoPiAt k g = some m) :
    m = round ((2 : ℝ) ^ k * (2 * Real.pi)) :=
  nearestBetween_eq_round hg (twoPiAt_enclosed k g).1 (twoPiAt_enclosed k g).2 h

/-- The bound of `exists_nearestBetween` from the width of an enclosure at scale `2^(k+g)`. -/
theorem width_linear (c : ℝ) (hc : 0 ≤ c) (k g : ℕ) : c * (((k + g : ℕ) : ℝ) + 6) ≤ c * (k + 6) * (g + 1) := by
  push_cast
  have hk : (0 : ℝ) ≤ k := by positivity
  have hg : (0 : ℝ) ≤ g := by positivity
  nlinarith [mul_nonneg hc (mul_nonneg hk hg), mul_nonneg hc hg]

theorem deltaAt_decides (k i : ℕ) : ∃ g, (deltaAt k i (g + 1)).isSome = true :=
  exists_nearestBetween (irrational_scaled k (irrational_atan i)) (lo := fun g => atanLow (k + g) i)
    (hi := fun g => atanHigh (k + g) i) (fun g => (deltaAt_enclosed k i g).1)
    (fun g => (deltaAt_enclosed k i g).2)
    (fun g => (atan_width (k + g) i).trans (width_linear 5 (by norm_num) k g))

theorem piAt_decides (k : ℕ) : ∃ g, (piAt k (g + 1)).isSome = true :=
  exists_nearestBetween (irrational_scaled k irrational_pi) (lo := fun g => 4 * quarterPiLow (k + g))
    (hi := fun g => 4 * quarterPiHigh (k + g)) (fun g => (piAt_enclosed k g).1)
    (fun g => (piAt_enclosed k g).2)
    (fun g => by
      have := quarterPi_width (k + g)
      refine le_trans ?_ (width_linear 20 (by norm_num) k g)
      push_cast at this ⊢
      linarith)

theorem twoPiAt_decides (k : ℕ) : ∃ g, (twoPiAt k (g + 1)).isSome = true :=
  exists_nearestBetween
    (irrational_scaled k (by simpa using irrational_pi.ratCast_mul (q := 2) (by norm_num)))
    (lo := fun g => 8 * quarterPiLow (k + g))
    (hi := fun g => 8 * quarterPiHigh (k + g)) (fun g => (twoPiAt_enclosed k g).1)
    (fun g => (twoPiAt_enclosed k g).2)
    (fun g => by
      have := quarterPi_width (k + g)
      refine le_trans ?_ (width_linear 40 (by norm_num) k g)
      push_cast at this ⊢
      linarith)

end Sys2Proof.Laws
end

