-- ==== Sys2Proof/Machine/Arith.lean ====
section
/-! DEFINITION. The arithmetic of R11 and of the configuration operations, on exact integers: the arithmetic
shift, `round_half_even`, the defaults derived from other operands, and the constants of R140. -/

namespace Sys2Proof.Machine

/-- The arithmetic right shift `floor(v / 2^i)` (R11, R142). -/
def asr (v : ℤ) (i : Nat) : ℤ := v / 2 ^ i

/-- `round_half_even(a / b)` for `b > 0` (R11). -/
def roundHalfEven (a b : ℤ) : ℤ :=
  let q := a / b
  let r := a % b
  if 2 * r < b then q
  else if b < 2 * r then q + 1
  else if q % 2 = 0 then q else q + 1

/-- `ceil(a / b)` for `b > 0`. -/
def ceilDiv (a b : ℤ) : ℤ := (a + b - 1) / b

/-- The value an `n`-bit signed port carries when it is driven with the integer `v`: the low `n` bits in two's
complement (R11, notes/assumptions/6.md). -/
def signedPort (n : Nat) (v : ℤ) : ℤ := v.bmod (2 ^ n)

/-- The least `CB >= 1` with `2^CB > SPS` (R129). -/
def leastCounterBits (sps : Nat) : Nat := sps.log2 + 1

/-! ### The constants of R140

Each is the nearest integer to `2^k` times an irrational real. The enclosures of Machine/Enclosure.lean are taken
first at `guardBits`, and where these do not decide the rounding, at the least number of bits that does; the
lemmas of Laws/Arctan.lean say that there is one (notes/assumptions/7.md). -/

/-- The bits below the unit at which the constants at scale `2^k` are enclosed first. `2^k * atan(2^-(k+1))` lies
only about `2^-(2k+4)` below one half, so the bits grow with `2k`. -/
def guardBits (k : Nat) : Nat := 2 * k + 48

/-- What the first enclosure decides, or else what `at?` decides at the least number of bits, from 1 on, that
decides. -/
def decidedValue (first : Option ℤ) (at? : Nat → Option ℤ) (h : ∃ g, (at? (g + 1)).isSome = true) : ℤ :=
  match first with
  | some m => m
  | none => (at? (Nat.find h + 1)).get (Nat.find_spec h)

/-- `round(2^k * atan(2^-i))`, where the first enclosure decides it. -/
def decidedDelta (k i : Nat) : Option ℤ := deltaAt k i (guardBits k)

/-- `round(2^k * pi)`, where the first enclosure decides it. -/
def decidedPi (k : Nat) : Option ℤ := piAt k (guardBits k)

/-- `round(2^k * 2 pi)`, where the first enclosure decides it. -/
def decidedTwoPi (k : Nat) : Option ℤ := twoPiAt k (guardBits k)

/-- `delta[i] = round(2^k * atan(2^-i))` with `k = B - 4` (R140). -/
def cordicDelta (k i : Nat) : ℤ := decidedValue (decidedDelta k i) (deltaAt k i) (Laws.deltaAt_decides k i)

/-- `PI_FIX = round(2^k * pi)` with `k = B - 4` (R140). -/
def cordicPi (k : Nat) : ℤ := decidedValue (decidedPi k) (piAt k) (Laws.piAt_decides k)

/-- `TWO_PI_FIX = round(2^k * 2 pi)` with `k = B - 4`, from `2 pi` directly (R140). -/
def cordicTwoPi (k : Nat) : ℤ := decidedValue (decidedTwoPi k) (twoPiAt k) (Laws.twoPiAt_decides k)

end Sys2Proof.Machine
end

