-- ==== Sys2Proof/Machine/Configure.lean ====
section
/-! DEFINITION. The configuration operations as functions from operands to a configuration record with its
tables, or to the cause of a `ConfigurationError` (R16, R240). Each checks its operands in the order of its
rule's pseudocode and reports the first cause that applies (R247). -/

namespace Sys2Proof.Machine

/-! ### NCO.BUILD (R100 to R103) -/

/-- `cycles = round_half_even(samples * frequency / sample_rate)` (R100). -/
def ncoCycles (p : NcoParams) (samples : Nat) : ℤ :=
  roundHalfEven (samples * p.frequency.num * p.sampleRate.den) (p.frequency.den * p.sampleRate.num)

/-- `|cycles * sample_rate / samples - frequency| < max_error`, multiplied out to integers (R100). -/
def ncoAccepts (p : NcoParams) (samples : Nat) : Bool :=
  decide
    (((ncoCycles p samples * p.sampleRate.num * p.frequency.den
        - p.frequency.num * p.sampleRate.den * samples).natAbs : ℤ) * p.maxError.den
      < p.maxError.num * p.sampleRate.den * samples * p.frequency.den)

/-- The period search from `samples` on, in steps of `W` up to `NCO_MAX_SAMPLES` (R100). -/
def ncoSearch (p : NcoParams) (step limit : Nat) : Nat → Nat → Option Nat
  | 0, _ => none
  | fuel + 1, samples =>
    if limit < samples then none
    else if ncoAccepts p samples then some samples
    else ncoSearch p step limit fuel (samples + step)

/-- `frac(cycles * n / N - p)` as a numerator over `N * p.den` (R103). -/
def ncoTurn (phase : ℚ) (period : Nat) (cycles : ℤ) (n : Nat) : ℤ :=
  (cycles * n * phase.den - phase.num * period) % (period * phase.den)

/-- The sample `s[n]` by the exact evaluation of R103: 1 where the cosine of R101 is positive, 0 where it is
negative, `ZERO_SIGN_BIT` where it is 0. -/
def ncoSample (zeroSign : Bool) (phase : ℚ) (period : Nat) (cycles : ℤ) (n : Nat) : Bool :=
  let u := ncoTurn phase period cycles n
  let d : ℤ := period * phase.den
  if 4 * u < d ∨ 3 * d < 4 * u then true
  else if 4 * u = d ∨ 4 * u = 3 * d then zeroSign
  else false

/-- The sample `s[n]` of a carrier's phase: evaluated where the phase is a rational multiple of `2π`, the given
one where it is not (R103). -/
def ncoSampleOf (p : NcoParams) (period : Nat) (cycles : ℤ) (n : Nat) : Bool :=
  match p.phase with
  | .turns q => ncoSample p.zeroSignBit q period cycles n
  | .samples l => l.getD n false

/-- The samples of the phase of `(2j+1)/(8N)` turns. R101's cosine is 0 only at whole multiples of `1/(4N)` of a
turn, so these are the samples of every phase between two neighbouring multiples. -/
def ncoPhaseSamples (period : Nat) (cycles : ℤ) (j : Nat) : List Bool :=
  (List.range period).map (ncoSample false (mkRat (2 * j + 1) (8 * period)) period cycles)

/-- A list of samples "satisfies rule R101" for some phase that is no rational multiple of `2π` (R103). -/
def ncoAdmits (period : Nat) (cycles : ℤ) (l : List Bool) : Bool :=
  (List.range (4 * period)).any fun j => decide (l = ncoPhaseSamples period cycles j)

/-- The phase is one that R103 lets be presented for a period of `N` samples. -/
def ncoPhaseAdmitted (p : NcoParams) (period : Nat) : Bool :=
  match p.phase with
  | .turns _ => true
  | .samples l => ncoAdmits period (ncoCycles p period) l

/-- The value of a list of bits, the first bit least significant (R11). -/
def bitsValue : List Bool → Nat
  | [] => 0
  | b :: bs => b.toNat + 2 * bitsValue bs

/-- A word from its samples in time order: the earliest is bit 0 under `lsb_first`, bit `W-1` under
`msb_first` (R64, R102). -/
def packWord (order : PackOrder) (samples : List Bool) : Nat :=
  match order with
  | .lsbFirst => bitsValue samples
  | .msbFirst => bitsValue samples.reverse

/-- Word `k` of the PatternTable (R102). -/
def ncoWord (p : NcoParams) (width period : Nat) (cycles : ℤ) (k : Nat) : Nat :=
  packWord p.packOrder
    ((List.range width).map fun j => ncoSampleOf p period cycles (k * width + j))

/-- The PatternTable of a period (R102). -/
def ncoTable (p : NcoParams) (width period : Nat) (cycles : ℤ) : List Nat :=
  (List.range (period / width)).map (ncoWord p width period cycles)

/-- `NCO.BUILD` (R100). A list of samples that satisfies R101 for no phase is a bad parameter
(notes/assumptions/10.md). -/
def buildNco (p : NcoParams) : Except ConfigCause NcoConfig :=
  if p.width < 1 ∨ p.sampleRate.num ≤ 0 ∨ p.maxError.num ≤ 0 ∨ p.frequency.num < 0 then
    .error .ncoBadParameter
  else
    let w := p.width.toNat
    let limit := p.maxSamples.toNat
    match ncoSearch p w limit (limit / w + 1) w with
    | none => .error .ncoNoPeriod
    | some n =>
      if ncoPhaseAdmitted p n then .ok ⟨p, w, n, ncoCycles p n, ncoTable p w n (ncoCycles p n)⟩
      else .error .ncoBadParameter

/-! ### MATCH.CONFIG and ACQ.CONFIG (R120, R129) -/

/-- `MATCH.CONFIG` (R120). -/
def buildMatch (p : MatchParams) : Except ConfigCause MatchConfig :=
  if p.pattern.length < 1 ∨ p.interval < 0 then .error .corrBadParameter
  else .ok ⟨p, p.pattern, p.interval.toNat + 1⟩

/-- `SPS` as given, or its default `interval + 1` (R129). -/
def acqSps (interval : ℤ) (p : AcqParams) : ℤ := p.sps.getD (interval + 1)

/-- `CNT_BITS` as given, or its default (R129). -/
def acqCntBits (interval : ℤ) (p : AcqParams) : ℤ :=
  p.cntBits.getD (leastCounterBits (acqSps interval p).toNat)

/-- `ACQ.CONFIG` (R129); `interval` is that of the matcher the FSM listens to. -/
def buildAcq (interval : ℤ) (p : AcqParams) : Except ConfigCause AcqConfig :=
  if acqSps interval p < 1 ∨ acqCntBits interval p < 1
      ∨ 2 ^ (acqCntBits interval p).toNat ≤ acqSps interval p - 1 then .error .corrBadParameter
  else .ok ⟨p, (acqSps interval p).toNat, (acqCntBits interval p).toNat⟩

/-! ### CORDIC.CONFIG (R140) -/

/-- `CORDIC.CONFIG` (R140). -/
def buildCordic (p : CordicParams) : Except ConfigCause CordicConfig :=
  if p.bitDepth < 4 ∨ p.stages < 1 then .error .cordicBadParameter
  else
    let b := p.bitDepth.toNat
    let n := p.stages.toNat
    .ok ⟨p, b, n, (List.range n).map (cordicDelta (b - 4)), cordicPi (b - 4), cordicTwoPi (b - 4)⟩

/-! ### SEQ.CONFIG (R160) -/

/-- `base(symbol)`: the listed word offset, or the default `base(s) = s` (R160). -/
def baseOf (base : BaseMap) (symbol : Nat) : Nat := (base.lookup symbol).getD symbol

/-- The words of a symbol lie inside the table (R63, R160). -/
def symbolInTable (base : BaseMap) (wps tableLength symbol : Nat) : Bool :=
  decide (baseOf base symbol * wps + wps ≤ tableLength)

/-- `SEQ.CONFIG` (R160). -/
def buildSeq (p : SeqParams) : Except ConfigCause SeqConfig :=
  if p.width < 1 ∨ p.samplesPerSymbol < p.width ∨ p.samplesPerSymbol % p.width ≠ 0 then
    .error .seqBadWindow
  else if p.packet.length < 1 then .error .seqEmptyPacket
  else
    let w := p.width.toNat
    let wps := p.samplesPerSymbol.toNat / w
    if ¬ ((p.packet ++ [0]).all fun s => symbolInTable p.base wps p.table.length s) then
      .error .seqSymbolRange
    else if ¬ (p.table.all fun v => decide (v < 2 ^ w)) then .error .seqWordWidth
    else .ok ⟨p, w, wps, p.table, p.packet, p.base, p.gateLat⟩

/-! ### TXI.CONFIG and RXI.CONFIG (R188, R197) -/

/-- `T = ceil(sys_clk_freq / 10^6)` (R184). -/
def timerConstant (sysClkFreq : ℤ) : Nat := (ceilDiv sysClkFreq (10 ^ 6)).toNat

/-- `sys_clk_freq < 1 or (WATCHDOG_TICKS given and WATCHDOG_TICKS < 1)` (R188, R197). -/
def linkBadClock (sysClkFreq : ℤ) (watchdogTicks : Option ℤ) : Bool :=
  decide (sysClkFreq < 1) || watchdogTicks.any fun n => decide (n < 1)

/-- `TXI.CONFIG` (R188); `buffer_enable` is accepted and has no effect. -/
def buildTxi (p : TxiParams) : Except ConfigCause TxiConfig :=
  if linkBadClock p.sysClkFreq p.watchdogTicks then .error .linkBadClock
  else .ok ⟨p, timerConstant p.sysClkFreq, p.watchdogTicks.map Int.toNat⟩

/-- `RXI.CONFIG` (R197). -/
def buildRxi (p : RxiParams) : Except ConfigCause RxiConfig :=
  if linkBadClock p.sysClkFreq p.watchdogTicks then .error .linkBadClock
  else
    .ok ⟨p, timerConstant p.sysClkFreq, p.watchdogTicks.map Int.toNat, p.bufferEnable, p.drpAddr,
      p.drpModMask⟩

/-- The code of a cause (R241). -/
def causeCode : ConfigCause → Nat
  | .ncoNoPeriod => 1
  | .ncoBadParameter => 2
  | .corrBadParameter => 3
  | .cordicBadParameter => 4
  | .seqBadWindow => 5
  | .seqEmptyPacket => 6
  | .seqSymbolRange => 7
  | .seqWordWidth => 8
  | .linkBadClock => 9
  | .pllNoDivider => 10
  | .combCycle => 11

end Sys2Proof.Machine
end

