-- ==== Sys2Proof/WellFormed.lean ====
section
/-! DEFINITION. Which terms of `Instr` stand for a selector word that R87 does not reserve: the state
code carried by `RST`, `ACQ.CLR` and `SEQ.CLR` is a declared state of its unit, and `RST` carries `clr = 1` only
for a unit with a level reset. Every other operand is admitted by its type. -/

namespace Sys2Proof

/-- ACQ has the declared state codes 0, 1, 2 (R83); 3 and above are reserved (R87). -/
def acqStateDeclared (st : BitVec 4) : Bool := decide (st.toNat ≤ 2)

/-- The state code of SEQ is its `done` register, 0 or 1 (R83); above 1 is reserved (R87). -/
def seqStateDeclared (st : BitVec 4) : Bool := decide (st.toNat ≤ 1)

/-- TXI has the declared state codes 0 to 4 (R83); 5 to 15 are reserved (R87). -/
def txiStateDeclared (st : BitVec 4) : Bool := decide (st.toNat ≤ 4)

/-- RXI has the declared state codes 0 to 11 (R83); 12 to 15 are reserved (R87). -/
def rxiStateDeclared (st : BitVec 4) : Bool := decide (st.toNat ≤ 11)

/-- `st` is a code that R87 does not reserve for the unit. It reserves none for a unit without states, where only
`RST` leaves `st` unexamined. -/
def UnitCode.stateDeclared : UnitCode → BitVec 4 → Bool
  | .acq, st => acqStateDeclared st
  | .seq, st => seqStateDeclared st
  | .txi, st => txiStateDeclared st
  | .rxi, st => rxiStateDeclared st
  | .nco, _ | .matcher, _ | .cordic, _ | .sync2, _ | .degl, _ | .wtmr, _ | .wdog, _ => true

/-- The units with a level reset of their own, whose words may have `clr = 1` (R81, R87). -/
def UnitCode.hasLevelReset : UnitCode → Bool
  | .acq | .seq => true
  | .nco | .matcher | .cordic | .sync2 | .degl | .wtmr | .wdog | .txi | .rxi => false

/-- A well-formed operation: one that some unreserved selector word spells (R86, R87, notes/assumptions/8.md). -/
def Instr.wellFormed : Instr → Bool
  | .rst u x => (u.hasLevelReset || !x.clr) && u.stateDeclared x.st
  | .acqClr st => acqStateDeclared st
  | .seqClr st => seqStateDeclared st
  | .ncoTick | .matchShift | .acqSearch | .acqMeasure | .acqSample | .cordicTick
  | .seqRun | .seqIdle | .sync2Tick | .deglTick | .wtmrTick | .wdogTick
  | .txiPowerDown | .txiWaitPllReset | .txiWaitInitDelay | .txiWaitGtpReset | .txiReady
  | .rxiPowerDown | .rxiDrpReadIssue | .rxiDrpReadWait | .rxiDrpModIssue | .rxiDrpModWait
  | .rxiWaitPmarstFall | .rxiDrpRestoreIssue | .rxiDrpRestoreWait | .rxiWaitGtpReset
  | .rxiAlign | .rxiWaitAlignDone | .rxiReady
  | .ncoBuild | .matchConfig | .acqConfig | .cordicConfig | .seqConfig | .txiConfig | .rxiConfig => true

end Sys2Proof
end

