-- ==== Sys2Proof/Decode.lean ====
section
/-! DEFINITION. The selector word: its fields (R81), the unit codes (R82), the decoder, total on all 65536
words and rejecting by name what R87 reserves, the encoder written from the same table (R86), and the rows of
spec/opcode_table.json as mask and match. The core has no bytes and no byte order (R64, R88): an operation is
one 16-bit word. -/

namespace Sys2Proof

/-- Why a selector word spells no operation (R87). -/
inductive DecodeReject where
  /-- Unit code 11 to 14. -/
  | reservedUnit
  /-- Bits 9:4 are not all 0. -/
  | nonzeroField
  /-- `clr = 1` for a unit other than ACQ and SEQ. -/
  | clrWithoutLevelReset
  /-- `st` is no state code of the unit (R83). -/
  | undeclaredState
  /-- `CFG` with `st` naming a unit without a configuration operation. -/
  | noConfigurationOperation
  /-- `CFG` with `rst = 1` or `clr = 1`. -/
  | levelAtConfiguration
  deriving DecidableEq, Repr

/-! ### Fields of the word (R81) -/

/-- Bits 15:12, the unit code. -/
def SelWord.unitField (w : SelWord) : BitVec 4 := w.extractLsb' 12 4

/-- Bit 11, the level of the domain reset. -/
def SelWord.rstField (w : SelWord) : Bool := w.getLsbD 11

/-- Bit 10, the level of the unit's own reset input. -/
def SelWord.clrField (w : SelWord) : Bool := w.getLsbD 10

/-- Bits 9:4, which must be 0. -/
def SelWord.zeroField (w : SelWord) : BitVec 6 := w.extractLsb' 4 6

/-- Bits 3:0, the state code. -/
def SelWord.stField (w : SelWord) : BitVec 4 := w.extractLsb' 0 4

/-- The word with the fields of R81: `{unit, rst, clr, 000000, st}`. -/
def selWord (unit : BitVec 4) (rst clr : Level) (st : BitVec 4) : SelWord :=
  unit ++ BitVec.ofBool rst ++ BitVec.ofBool clr ++ (0#6) ++ st

/-! ### Unit codes (R82) -/

/-- The code of a unit that ticks (R82). -/
def UnitCode.code : UnitCode → BitVec 4
  | .nco => 0
  | .matcher => 1
  | .acq => 2
  | .cordic => 3
  | .seq => 4
  | .sync2 => 5
  | .degl => 6
  | .wtmr => 7
  | .wdog => 8
  | .txi => 9
  | .rxi => 10

/-- The unit of a code, for the codes 0 to 10 (R82). -/
def UnitCode.ofCode? (c : BitVec 4) : Option UnitCode :=
  match c.toNat with
  | 0 => some .nco
  | 1 => some .matcher
  | 2 => some .acq
  | 3 => some .cordic
  | 4 => some .seq
  | 5 => some .sync2
  | 6 => some .degl
  | 7 => some .wtmr
  | 8 => some .wdog
  | 9 => some .txi
  | 10 => some .rxi
  | _ => none

/-- The unit code `CFG` of the configuration operations (R82). -/
def cfgCode : BitVec 4 := 15

/-- The code a configuration operation carries in `st`: that of the unit it configures (R81, R86). -/
def ConfigUnit.code : ConfigUnit → BitVec 4
  | .nco => 0
  | .matcher => 1
  | .acq => 2
  | .cordic => 3
  | .seq => 4
  | .txi => 9
  | .rxi => 10

/-! ### The decoder -/

/-- The configuration operation of an `st` field (R86). -/
def decodeConfig (st : BitVec 4) : Except DecodeReject Instr :=
  match st.toNat with
  | 0 => .ok .ncoBuild
  | 1 => .ok .matchConfig
  | 2 => .ok .acqConfig
  | 3 => .ok .cordicConfig
  | 4 => .ok .seqConfig
  | 9 => .ok .txiConfig
  | 10 => .ok .rxiConfig
  | _ => .error .noConfigurationOperation

/-- The operation of a unit without states: `st` must be 0 (R83, R86). -/
def decodeStateless (i : Instr) (st : BitVec 4) : Except DecodeReject Instr :=
  if st = 0 then .ok i else .error .undeclaredState

/-- The ACQ operation of a state code (R86). -/
def decodeAcq (st : BitVec 4) : Except DecodeReject Instr :=
  match st.toNat with
  | 0 => .ok .acqSearch
  | 1 => .ok .acqMeasure
  | 2 => .ok .acqSample
  | _ => .error .undeclaredState

/-- The SEQ operation of the `done` register (R86). -/
def decodeSeq (st : BitVec 4) : Except DecodeReject Instr :=
  match st.toNat with
  | 0 => .ok .seqRun
  | 1 => .ok .seqIdle
  | _ => .error .undeclaredState

/-- The TXI operation of a state code (R86). -/
def decodeTxi (st : BitVec 4) : Except DecodeReject Instr :=
  match st.toNat with
  | 0 => .ok .txiPowerDown
  | 1 => .ok .txiWaitPllReset
  | 2 => .ok .txiWaitInitDelay
  | 3 => .ok .txiWaitGtpReset
  | 4 => .ok .txiReady
  | _ => .error .undeclaredState

/-- The RXI operation of a state code (R86). -/
def decodeRxi (st : BitVec 4) : Except DecodeReject Instr :=
  match st.toNat with
  | 0 => .ok .rxiPowerDown
  | 1 => .ok .rxiDrpReadIssue
  | 2 => .ok .rxiDrpReadWait
  | 3 => .ok .rxiDrpModIssue
  | 4 => .ok .rxiDrpModWait
  | 5 => .ok .rxiWaitPmarstFall
  | 6 => .ok .rxiDrpRestoreIssue
  | 7 => .ok .rxiDrpRestoreWait
  | 8 => .ok .rxiWaitGtpReset
  | 9 => .ok .rxiAlign
  | 10 => .ok .rxiWaitAlignDone
  | 11 => .ok .rxiReady
  | _ => .error .undeclaredState

/-- The operation a unit performs by its state code, its level reset being 0 (R86). -/
def decodeByState (u : UnitCode) (st : BitVec 4) : Except DecodeReject Instr :=
  match u with
  | .nco => decodeStateless .ncoTick st
  | .matcher => decodeStateless .matchShift st
  | .acq => decodeAcq st
  | .cordic => decodeStateless .cordicTick st
  | .seq => decodeSeq st
  | .sync2 => decodeStateless .sync2Tick st
  | .degl => decodeStateless .deglTick st
  | .wtmr => decodeStateless .wtmrTick st
  | .wdog => decodeStateless .wdogTick st
  | .txi => decodeTxi st
  | .rxi => decodeRxi st

/-- The operation a unit performs while its level reset is held (R86). The state code is not used to select
it, but a code that is no declared state of the unit is reserved (R87). -/
def decodeCleared (u : UnitCode) (st : BitVec 4) : Except DecodeReject Instr :=
  match u with
  | .acq => if acqStateDeclared st then .ok (.acqClr st) else .error .undeclaredState
  | .seq => if seqStateDeclared st then .ok (.seqClr st) else .error .undeclaredState
  | _ => .error .clrWithoutLevelReset

/-- The operation of a word with `rst = 1` of a unit that ticks. Neither `clr` nor `st` is used to select it, but
what R87 reserves in them is reserved here too. -/
def decodeReset (u : UnitCode) (clr : Level) (st : BitVec 4) : Except DecodeReject Instr :=
  if clr && !u.hasLevelReset then .error .clrWithoutLevelReset
  else if u.stateDeclared st then .ok (.rst u ⟨clr, st⟩)
  else .error .undeclaredState

/-- The operation of a word of unit code `CFG`, which has no level (R87). -/
def decodeCfg (rst clr : Level) (st : BitVec 4) : Except DecodeReject Instr :=
  if rst || clr then .error .levelAtConfiguration else decodeConfig st

/-- The operation of a unit that ticks: "A decoder examines `rst` first, then `unit`, then `clr`, then `st`"
(R86). -/
def decodeTick (u : UnitCode) (rst clr : Level) (st : BitVec 4) : Except DecodeReject Instr :=
  if rst then decodeReset u clr st
  else if clr then decodeCleared u st
  else decodeByState u st

/-- The decoder of R86, refusing what R87 reserves. -/
def decode (w : SelWord) : Except DecodeReject Instr :=
  if w.zeroField ≠ 0 then .error .nonzeroField
  else if w.unitField = cfgCode then decodeCfg w.rstField w.clrField w.stField
  else
    match UnitCode.ofCode? w.unitField with
    | none => .error .reservedUnit
    | some u => decodeTick u w.rstField w.clrField w.stField

/-- The decoder as the host asks for it: the operation of the selector word whose bits are `w`, of which the
table gives `nbits`; the bits above them are 0. -/
def decodeTableWord (nbits w : Nat) : Option Instr :=
  if w % 2 ^ nbits < 2 ^ 16 then
    match decode (BitVec.ofNat 16 (w % 2 ^ nbits)) with
    | .ok i => some i
    | .error _ => none
  else none

/-! ### The encoder -/

/-- The word of a unit's operation in state `st`, with both resets low (R86). -/
def tickWord (u : UnitCode) (st : BitVec 4) : SelWord := selWord u.code false false st

/-- The word of the configuration operation of a unit (R86). -/
def configWord (u : ConfigUnit) : SelWord := selWord cfgCode false false u.code

/-- The selector word of an operation (R86). -/
def encode : Instr → SelWord
  | .rst u x => selWord u.code true x.clr x.st
  | .ncoTick => tickWord .nco 0
  | .matchShift => tickWord .matcher 0
  | .acqClr st => selWord UnitCode.acq.code false true st
  | .acqSearch => tickWord .acq 0
  | .acqMeasure => tickWord .acq 1
  | .acqSample => tickWord .acq 2
  | .cordicTick => tickWord .cordic 0
  | .seqClr st => selWord UnitCode.seq.code false true st
  | .seqRun => tickWord .seq 0
  | .seqIdle => tickWord .seq 1
  | .sync2Tick => tickWord .sync2 0
  | .deglTick => tickWord .degl 0
  | .wtmrTick => tickWord .wtmr 0
  | .wdogTick => tickWord .wdog 0
  | .txiPowerDown => tickWord .txi 0
  | .txiWaitPllReset => tickWord .txi 1
  | .txiWaitInitDelay => tickWord .txi 2
  | .txiWaitGtpReset => tickWord .txi 3
  | .txiReady => tickWord .txi 4
  | .rxiPowerDown => tickWord .rxi 0
  | .rxiDrpReadIssue => tickWord .rxi 1
  | .rxiDrpReadWait => tickWord .rxi 2
  | .rxiDrpModIssue => tickWord .rxi 3
  | .rxiDrpModWait => tickWord .rxi 4
  | .rxiWaitPmarstFall => tickWord .rxi 5
  | .rxiDrpRestoreIssue => tickWord .rxi 6
  | .rxiDrpRestoreWait => tickWord .rxi 7
  | .rxiWaitGtpReset => tickWord .rxi 8
  | .rxiAlign => tickWord .rxi 9
  | .rxiWaitAlignDone => tickWord .rxi 10
  | .rxiReady => tickWord .rxi 11
  | .ncoBuild => configWord .nco
  | .matchConfig => configWord .matcher
  | .acqConfig => configWord .acq
  | .cordicConfig => configWord .cordic
  | .seqConfig => configWord .seq
  | .txiConfig => configWord .txi
  | .rxiConfig => configWord .rxi

/-! ### The rows of spec/opcode_table.json -/

/-- The row's `mask` of an operation (spec/opcode_table.json). -/
def Instr.rowMask : Instr → SelWord
  | .rst _ _ => 0x0800
  | .acqClr _ | .seqClr _ => 0xFFF0
  | .ncoTick | .matchShift | .acqSearch | .acqMeasure | .acqSample | .cordicTick | .seqRun | .seqIdle
  | .sync2Tick | .deglTick | .wtmrTick | .wdogTick | .txiPowerDown | .txiWaitPllReset
  | .txiWaitInitDelay | .txiWaitGtpReset | .txiReady | .rxiPowerDown | .rxiDrpReadIssue
  | .rxiDrpReadWait | .rxiDrpModIssue | .rxiDrpModWait | .rxiWaitPmarstFall | .rxiDrpRestoreIssue
  | .rxiDrpRestoreWait | .rxiWaitGtpReset | .rxiAlign | .rxiWaitAlignDone | .rxiReady | .ncoBuild
  | .matchConfig | .acqConfig | .cordicConfig | .seqConfig | .txiConfig | .rxiConfig => 0xFFFF

/-- The row's `match` of an operation (spec/opcode_table.json). -/
def Instr.rowMatch : Instr → SelWord
  | .rst _ _ => 0x0800
  | .ncoTick => 0x0000
  | .matchShift => 0x1000
  | .acqClr _ => 0x2400
  | .acqSearch => 0x2000
  | .acqMeasure => 0x2001
  | .acqSample => 0x2002
  | .cordicTick => 0x3000
  | .seqClr _ => 0x4400
  | .seqRun => 0x4000
  | .seqIdle => 0x4001
  | .sync2Tick => 0x5000
  | .deglTick => 0x6000
  | .wtmrTick => 0x7000
  | .wdogTick => 0x8000
  | .txiPowerDown => 0x9000
  | .txiWaitPllReset => 0x9001
  | .txiWaitInitDelay => 0x9002
  | .txiWaitGtpReset => 0x9003
  | .txiReady => 0x9004
  | .rxiPowerDown => 0xA000
  | .rxiDrpReadIssue => 0xA001
  | .rxiDrpReadWait => 0xA002
  | .rxiDrpModIssue => 0xA003
  | .rxiDrpModWait => 0xA004
  | .rxiWaitPmarstFall => 0xA005
  | .rxiDrpRestoreIssue => 0xA006
  | .rxiDrpRestoreWait => 0xA007
  | .rxiWaitGtpReset => 0xA008
  | .rxiAlign => 0xA009
  | .rxiWaitAlignDone => 0xA00A
  | .rxiReady => 0xA00B
  | .ncoBuild => 0xF000
  | .matchConfig => 0xF001
  | .acqConfig => 0xF002
  | .cordicConfig => 0xF003
  | .seqConfig => 0xF004
  | .txiConfig => 0xF009
  | .rxiConfig => 0xF00A

end Sys2Proof
end

