-- ==== Sys2Proof/Machine/State.lean ====
section
/-! DEFINITION. The state of the ADR core as plain data: every register of R21 twice (the value visible during
the tick and the value that lands at the tick boundary, R7), the configuration records and tables (R26, R27),
the levels at the input ports, the clock domains (R6), the environment's pending statements (R90), and the
last `ConfigurationError` (R240). The core has no program counter (R23) and no data memory (R60): its only
memories are the read-only tables of `Instances`. -/

namespace Sys2Proof.Machine

/-! ### State codes (R83) -/

/-- The states of ACQ, in the order of their codes (R83, R128). -/
inductive AcqState where
  | searching | measuring | sampling
  deriving DecidableEq, Repr

/-- The five states of TXI, in the order of their codes (R83, R195). -/
inductive TxiState where
  | powerDown | waitPllReset | waitInitDelay | waitGtpReset | ready
  deriving DecidableEq, Repr

/-- The twelve states of RXI, in the order of their codes (R83, R212). -/
inductive RxiState where
  | powerDown | drpReadIssue | drpReadWait | drpModIssue | drpModWait | waitPmarstFall
  | drpRestoreIssue | drpRestoreWait | waitGtpReset | align | waitAlignDone | ready
  deriving DecidableEq, Repr

/-! ### Registers (R21) -/

/-- NCO: the table address `index` and the registered word `out`. -/
structure NcoRegs where
  index : Nat
  out : Nat
  deriving DecidableEq, Repr

/-- MATCH: `hist[0..L-1]`, the oldest sample at position 0 (R121). -/
structure MatchRegs where
  hist : List Level
  deriving DecidableEq, Repr

/-- ACQ: the FSM state, `eye_width` and `counter`. -/
structure AcqRegs where
  state : AcqState
  eyeWidth : Nat
  counter : Nat
  deriving DecidableEq, Repr

/-- One rank of the CORDIC pipeline, `(x, y, angle, flipped)` over unbounded integers (R28). -/
structure Rank where
  x : ℤ
  y : ℤ
  angle : ℤ
  flipped : Bool
  deriving DecidableEq, Repr

/-- CORDIC: the ranks `P[0..S]` and `OUT = (magnitude, angle)`. -/
structure CordicRegs where
  ranks : List Rank
  magnitude : ℤ
  angle : ℤ
  deriving DecidableEq, Repr

/-- SEQ: the counters, the lookup pipeline and the gate copies of `done` (R161, R164). -/
structure SeqRegs where
  symbolIndex : Nat
  sampleIndex : Nat
  lastSampleIndex : Nat
  symReg : Nat
  outReg : Nat
  done : Bool
  doneD1 : Bool
  doneD2 : Bool
  deriving DecidableEq, Repr

/-- One synchronizer: `s1`, `s2` (R181). -/
structure Sync2 where
  s1 : Level
  s2 : Level
  deriving DecidableEq, Repr

/-- The two synchronizers of a TXI (R186). -/
structure TxiSync where
  plllock : Sync2
  txresetdone : Sync2
  deriving DecidableEq, Repr

/-- The control outputs of a TXI: as a combinational value those of R187, as registers the four deglitch
registers (R182). -/
structure TxiPorts where
  pllreset : Level
  gttxreset : Level
  gttxpd : Level
  txuserrdy : Level
  deriving DecidableEq, Repr

/-- A TXI with its primitives: FSM, synchronizers, deglitch registers, WTMR `count`, WDOG `wd` (R180). -/
structure TxiRegs where
  state : TxiState
  sync : TxiSync
  degl : TxiPorts
  count : Nat
  wd : Nat
  deriving DecidableEq, Repr

/-- The five synchronizers of an RXI (R196). -/
structure RxiSync where
  plllock : Sync2
  rxresetdone : Sync2
  rxdlysresetdone : Sync2
  rxsyncdone : Sync2
  rxpmaresetdone : Sync2
  deriving DecidableEq, Repr

/-- The control outputs of an RXI: as a combinational value those of R198, as registers the seven deglitch
registers (R182). -/
structure RxiPorts where
  gtrxreset : Level
  gtrxpd : Level
  rxuserrdy : Level
  rxdlysreset : Level
  drpen : Level
  drpwe : Level
  drpdi : DrpData
  deriving DecidableEq, Repr

/-- An RXI with its primitives (R180), `drpvalue` (R202) and `pmadone_r` (R199). -/
structure RxiRegs where
  state : RxiState
  drpvalue : DrpData
  pmadoneR : Level
  sync : RxiSync
  degl : RxiPorts
  count : Nat
  wd : Nat
  deriving DecidableEq, Repr

/-- Every register of the core (R21). -/
structure Regs where
  nco : NcoRegs
  matcher : MatchRegs
  acq : AcqRegs
  cordic : CordicRegs
  seq : SeqRegs
  txi : TxiRegs
  rxi : RxiRegs
  deriving DecidableEq, Repr

/-! ### Input ports, clock domains, stimulus -/

/-- The level of every input port but `rst`: `input` and ACQ `reset` (R123), `x` and `y` (R146), SEQ `reset`
(R162), the inputs of a TXI (R186) and of an RXI (R196). The levels belong to the ports and outlive an instance:
DESIGN CHOICE (notes/assumptions/23.md). -/
structure Inputs where
  matchInput : Level
  acqReset : Level
  cordicX : ℤ
  cordicY : ℤ
  seqReset : Level
  txPlllock : Level
  txresetdone : Level
  txRestart : Level
  rxPlllock : Level
  rxresetdone : Level
  rxdlysresetdone : Level
  rxsyncdone : Level
  rxpmaresetdone : Level
  rxRestart : Level
  drprdy : Level
  drpdo : DrpData
  deriving DecidableEq, Repr

/-- The parts of a link-training instance that tick (R180). -/
inductive LinkPart where
  | fsm | sync2 | degl | wtmr | wdog
  deriving DecidableEq, Repr

/-- A place of the core at which one operation is performed in each tick of its domain. A `sync2` or `degl`
part stands for all synchronizers or all deglitch registers of its instance, which act alike (R86, R180). -/
inductive Slot where
  | nco | matcher | acq | cordic | seq
  | link (v : LinkVariant) (p : LinkPart)
  deriving DecidableEq, Repr

/-- A clock domain: the places that step together in its ticks, and the level of its `rst` (R6, R30). -/
structure Domain where
  members : List Slot
  rst : Level
  deriving DecidableEq, Repr

/-- One `port=value` of a `tick` statement (R90). `rst` is that of the domain that ticks. -/
inductive PortLevel where
  | rst (v : Level)
  | matchInput (v : Level)
  | acqReset (v : Level)
  | cordicX (v : ℤ)
  | cordicY (v : ℤ)
  | seqReset (v : Level)
  | txPlllock (v : Level)
  | txresetdone (v : Level)
  | txRestart (v : Level)
  | rxPlllock (v : Level)
  | rxresetdone (v : Level)
  | rxdlysresetdone (v : Level)
  | rxsyncdone (v : Level)
  | rxpmaresetdone (v : Level)
  | rxRestart (v : Level)
  | drprdy (v : Level)
  | drpdo (v : DrpData)
  deriving DecidableEq, Repr

/-- What the environment does next: a statement of the stimulus script of R90 (`configure`, `tick` in the
domain of the given number), or the destruction of an instance (R270 (5)). -/
inductive Stim where
  | configure (call : ConfigCall)
  | tick (domain : Nat) (levels : List PortLevel)
  | destroy (unit : ConfigUnit)
  deriving DecidableEq, Repr

/-! ### Outcomes -/

/-- The read-only table spaces that are read at an address computed at run time (R60). -/
inductive TableSpace where
  | ncoTable | seqPacket | seqTable
  deriving DecidableEq, Repr

/-- Why the machine stops. R242: no tick operation of the hardware can fault; both constructors are raised
only in states that violate the invariant `Safety.Inv`, which no run reaches. -/
inductive Fault where
  /-- Raised by `NCO.TICK`, `SEQ.RUN` and `SEQ.IDLE` when a table is addressed outside its words, which R63
  rules out for a configured unit. Safe: nothing is claimed of such a state. -/
  | tableRange (space : TableSpace) (address : Nat)
  /-- Raised by `CORDIC.TICK` when the rank register `P[S]` is absent, which R143 rules out for a configured
  unit. Safe: nothing is claimed of such a state. -/
  | rankMissing (index : Nat)
  deriving DecidableEq, Repr

/-- Why the machine refuses. -/
inductive Refusal where
  /-- Raised by an arm of `exec` whose instruction has no meaning yet; no arm does. Safe. -/
  | notModelled (mnemonic : String)
  /-- Raised by a tick operation, or `RST`, of a unit of which no instance exists: "no rule applies to an
  unconfigured unit" (R271 (a)). A tick never selects one. Safe. -/
  | unitNotConfigured (unit : UnitCode)
  /-- Raised by the step for a selector word that spells no operation (R87); the words the step forms are
  never reserved. Safe. -/
  | reservedSelector (reason : DecodeReject)
  /-- Raised by a tick in a partition of the units into clock domains in which a unit would stand in two domains
  (R6) or read a register of another one (R69). `Safety.Inv` rules it out and no step changes the partition.
  Safe. -/
  | domainCrossing
  deriving DecidableEq, Repr

/-! ### The state -/

/-- The state of the ADR core and of its environment. -/
structure State where
  /-- The instances that exist, with their configuration records and tables (R26, R27). -/
  inst : Instances
  /-- `r(t)`: the registers as every read of the tick sees them (R68 (a)). -/
  regs : Regs
  /-- `r(t+1)` as written so far in this tick; it lands at the tick boundary (R68 (b)). -/
  next : Regs
  /-- The levels at the input ports during the tick (R7). -/
  inputs : Inputs
  /-- The operands presented to the configuration operations (R8). -/
  params : Params
  /-- The `ConfigurationError` the last configuration operation returned, if it failed (R240). -/
  error : Option ConfigurationError
  /-- The model's own: the link-training instance whose primitives the running operation is of. -/
  focus : LinkVariant
  /-- The clock domains (R6). -/
  domains : List Domain
  /-- The statements the environment has yet to make (R90). -/
  script : List Stim
  deriving DecidableEq, Repr

/-! ### The state right after reset -/

/-- The register values of R21 while no instance exists; an array whose length a configuration fixes is
empty, and `count`, whose reset value is the constant `T` of a configuration, is 0. -/
def Regs.initial : Regs where
  nco := ⟨0, 0⟩
  matcher := ⟨[]⟩
  acq := ⟨.searching, 0, 0⟩
  cordic := ⟨[], 0, 0⟩
  seq := ⟨0, 0, 0, 0, 0, false, false, false⟩
  txi := ⟨.powerDown, ⟨⟨false, false⟩, ⟨false, false⟩⟩, ⟨false, false, false, false⟩, 0, 0⟩
  rxi := ⟨.powerDown, 0, false,
    ⟨⟨false, false⟩, ⟨false, false⟩, ⟨false, false⟩, ⟨false, false⟩, ⟨false, false⟩⟩,
    ⟨false, false, false, false, false, false, 0⟩, 0, 0⟩

/-- Every input level 0: "an input the environment does not drive is 0" (R271 (b)). -/
def Inputs.initial : Inputs :=
  ⟨false, false, 0, 0, false, false, false, false, false, false, false, false, false, false, false, 0⟩

/-- The operands before any configuration statement: the defaults of R8 where it gives one, and the empty or
zero operand where it gives none (notes/assumptions/2.md). -/
def Params.initial : Params where
  nco := ⟨0, 0, 0, 0, .turns 0, 0, false, .lsbFirst⟩
  matcher := ⟨[], 0⟩
  acq := ⟨none, none⟩
  cordic := ⟨0, 0⟩
  seq := ⟨[], [], 0, 0, [], .two⟩
  txi := ⟨0, false, none⟩
  rxi := ⟨0, false, none, 0x011, 0xF7FF⟩

/-- The places of a link-training instance. -/
def linkSlots (v : LinkVariant) : List Slot :=
  [.link v .fsm, .link v .sync2, .link v .degl, .link v .wtmr, .link v .wdog]

/-- One clock domain for each of the five components, the link training in its two variants; the source places
no component in a domain (N23, notes/assumptions/3.md). -/
def initialDomains : List Domain :=
  [⟨[.nco], false⟩, ⟨[.matcher, .acq], false⟩, ⟨[.cordic], false⟩, ⟨[.seq], false⟩,
   ⟨linkSlots .tx, false⟩, ⟨linkSlots .rx, false⟩]

/-- The core before any configuration: no instance exists, every register holds its reset value of R21, every
input is 0 and the environment has made no statement (R270). -/
def State.reset : State where
  inst := ⟨none, none, none, none, none, none, none⟩
  regs := Regs.initial
  next := Regs.initial
  inputs := Inputs.initial
  params := Params.initial
  error := none
  focus := .tx
  domains := initialDomains
  script := []

end Sys2Proof.Machine
end

