-- ==== Sys2Proof/Machine/Operands.lean ====
section
/-! DEFINITION. The operands of the tick operations, assembled from registers, input ports and configuration
records (R85): tap positions, CORDIC port values and stage functions, the sequencer's table address, the
combinational control values of the link-training FSMs (R187, R198), and the reset value of every register
(R21). -/

namespace Sys2Proof.Machine

/-! ### MATCH -/

/-- `L = (P-1) * S_m + 1` (R120). -/
def histLength (c : MatchConfig) : Nat := (c.pattern.length - 1) * c.spacing + 1

/-- The history position `i * S_m` of pattern bit `i` (R85, R122). -/
def tapPosition (c : MatchConfig) (i : Nat) : Nat := i * c.spacing

/-! ### CORDIC -/

/-- The stage function `flip` (R141). -/
def cordicFlip (x y : ℤ) : Rank := if x < 0 then ⟨-x, y, 0, true⟩ else ⟨x, y, 0, false⟩

/-- The stage function `iter_i` with its constant `delta[i]` (R142). -/
def cordicIter (i : Nat) (delta : ℤ) (r : Rank) : Rank :=
  if r.y < 0 then ⟨r.x - asr r.y i, r.y + asr r.x i, r.angle - delta, r.flipped⟩
  else ⟨r.x + asr r.y i, r.y - asr r.x i, r.angle + delta, r.flipped⟩

/-- The angle of the stage function `final` (R143); its magnitude is `x`. -/
def cordicFinalAngle (c : CordicConfig) (r : Rank) : ℤ :=
  if r.flipped then c.piFix - r.angle
  else if r.angle < 0 then r.angle + c.twoPiFix
  else r.angle

/-- The value at the input port `x` (R146). -/
def cordicPortX (c : CordicConfig) (i : Inputs) : ℤ := signedPort c.bitDepth i.cordicX

/-- The value at the input port `y` (R146). -/
def cordicPortY (c : CordicConfig) (i : Inputs) : ℤ := signedPort c.bitDepth i.cordicY

/-- `iter_i(P[i])` for `i = first, first+1, ...` as far as there are ranks and constants (R144). -/
def cordicIterFrom (first : Nat) : List ℤ → List Rank → List Rank
  | d :: ds, r :: rs => cordicIter first d r :: cordicIterFrom (first + 1) ds rs
  | _, _ => []

/-- `P'[0..S]` (R144). -/
def cordicNextRanks (c : CordicConfig) (i : Inputs) (ranks : List Rank) : List Rank :=
  cordicFlip (cordicPortX c i) (cordicPortY c i) :: cordicIterFrom 0 c.delta ranks

/-! ### SEQ -/

/-- The table address `base(sym_reg) * WPS + last_sample_index` (R85, R161). -/
def seqTableAddress (c : SeqConfig) (r : SeqRegs) : Nat :=
  baseOf c.base r.symReg * c.wps + r.lastSampleIndex

/-- The sample window of the symbol ends in this tick (R163). -/
def seqWindowEnds (c : SeqConfig) (r : SeqRegs) : Bool := decide (r.sampleIndex = c.wps - 1)

/-- The symbol is the last of the packet (R163). -/
def seqLastSymbol (c : SeqConfig) (r : SeqRegs) : Bool :=
  decide (r.symbolIndex = c.packet.length - 1)

/-! ### Link training -/

/-- The combinational control values of a TXI per state (R187). -/
def txiControls : TxiState → TxiPorts
  | .powerDown => ⟨true, true, true, false⟩
  | .waitPllReset => ⟨false, true, false, false⟩
  | .waitInitDelay => ⟨false, true, false, false⟩
  | .waitGtpReset => ⟨false, false, false, true⟩
  | .ready => ⟨false, false, false, true⟩

/-- The timer's `wait` of a TXI (R187). -/
def txiWait (r : TxiRegs) : Level :=
  match r.state with
  | .powerDown => true
  | .waitPllReset => false
  | .waitInitDelay => r.sync.plllock.s2
  | .waitGtpReset => false
  | .ready => false

/-- The DRP write data of an RXI: `drpvalue & DRP_MOD_MASK` in state 3, `drpvalue` elsewhere (R85, R198). -/
def rxiDrpData (c : RxiConfig) (r : RxiRegs) : DrpData :=
  match r.state with
  | .drpModIssue => r.drpvalue &&& c.drpModMask
  | _ => r.drpvalue

/-- The combinational control values of an RXI per state (R198):
`gtrxreset gtrxpd rxuserrdy rxdlysreset drpen drpwe drpdi`. -/
def rxiControls (c : RxiConfig) (r : RxiRegs) : RxiPorts :=
  match r.state with
  | .powerDown => ⟨true, true, false, false, false, false, rxiDrpData c r⟩
  | .drpReadIssue => ⟨true, false, false, false, true, false, rxiDrpData c r⟩
  | .drpReadWait => ⟨true, false, false, false, false, false, rxiDrpData c r⟩
  | .drpModIssue => ⟨true, false, false, false, true, true, rxiDrpData c r⟩
  | .drpModWait => ⟨true, false, false, false, false, false, rxiDrpData c r⟩
  | .waitPmarstFall => ⟨false, false, false, false, false, false, rxiDrpData c r⟩
  | .drpRestoreIssue => ⟨false, false, false, false, true, true, rxiDrpData c r⟩
  | .drpRestoreWait => ⟨false, false, false, false, false, false, rxiDrpData c r⟩
  | .waitGtpReset => ⟨false, false, true, false, false, false, rxiDrpData c r⟩
  | .align => ⟨false, false, true, true, false, false, rxiDrpData c r⟩
  | .waitAlignDone => ⟨false, false, true, false, false, false, rxiDrpData c r⟩
  | .ready => ⟨false, false, true, false, false, false, rxiDrpData c r⟩

/-- The timer's `wait` of an RXI (R198): `plllock_s` in POWER-DOWN, 0 elsewhere. -/
def rxiWait (r : RxiRegs) : Level :=
  match r.state with
  | .powerDown => r.sync.plllock.s2
  | _ => false

/-- The synchronizers of a TXI after `SYNC2.TICK`: `s1' = d`, `s2' = s1` (R181). -/
def sync2Shift (d : Level) (r : Sync2) : Sync2 := ⟨d, r.s1⟩

/-- Every synchronizer of a TXI shifted by its input (R186). -/
def txiSyncShift (i : Inputs) (r : TxiSync) : TxiSync :=
  ⟨sync2Shift i.txPlllock r.plllock, sync2Shift i.txresetdone r.txresetdone⟩

/-- Every synchronizer of an RXI shifted by its input (R196). -/
def rxiSyncShift (i : Inputs) (r : RxiSync) : RxiSync :=
  ⟨sync2Shift i.rxPlllock r.plllock, sync2Shift i.rxresetdone r.rxresetdone,
   sync2Shift i.rxdlysresetdone r.rxdlysresetdone, sync2Shift i.rxsyncdone r.rxsyncdone,
   sync2Shift i.rxpmaresetdone r.rxpmaresetdone⟩

/-- The down-counter of R183: `count - 1`, not below 0, while `wait` is 1, else `T`. -/
def timerNext (wait : Level) (t count : Nat) : Nat := if wait then count - 1 else t

/-! ### Reset values (R21, R30) -/

/-- NCO at reset. -/
def ncoResetRegs : NcoRegs := ⟨0, 0⟩

/-- MATCH at reset: the history all 0. -/
def matchResetRegs (c : MatchConfig) : MatchRegs := ⟨List.replicate (histLength c) false⟩

/-- ACQ at reset. -/
def acqResetRegs : AcqRegs := ⟨.searching, 0, 0⟩

/-- CORDIC at reset: the ranks `P[0..S]` and `OUT` all 0. -/
def cordicResetRegs (c : CordicConfig) : CordicRegs :=
  ⟨List.replicate (c.stages + 1) ⟨0, 0, 0, false⟩, 0, 0⟩

/-- SEQ at reset. -/
def seqResetRegs : SeqRegs := ⟨0, 0, 0, 0, 0, false, false, false⟩

/-- A synchronizer at reset. -/
def sync2Reset : Sync2 := ⟨false, false⟩

/-- The synchronizers of a TXI at reset. -/
def txiSyncReset : TxiSync := ⟨sync2Reset, sync2Reset⟩

/-- The deglitch registers of a TXI at reset. -/
def txiDeglReset : TxiPorts := ⟨false, false, false, false⟩

/-- A TXI at reset: POWER-DOWN, `count = T`, everything else 0. -/
def txiResetRegs (c : TxiConfig) : TxiRegs := ⟨.powerDown, txiSyncReset, txiDeglReset, c.timerTicks, 0⟩

/-- The synchronizers of an RXI at reset. -/
def rxiSyncReset : RxiSync := ⟨sync2Reset, sync2Reset, sync2Reset, sync2Reset, sync2Reset⟩

/-- The deglitch registers of an RXI at reset. -/
def rxiDeglReset : RxiPorts := ⟨false, false, false, false, false, false, 0⟩

/-- An RXI at reset: POWER-DOWN, `count = T`, everything else 0. -/
def rxiResetRegs (c : RxiConfig) : RxiRegs :=
  ⟨.powerDown, 0, false, rxiSyncReset, rxiDeglReset, c.timerTicks, 0⟩

end Sys2Proof.Machine
end

