-- ==== Sys2Proof/Machine/Flags.lean ====
section
/-! DEFINITION. The one-bit status values of R25 and the state codes of R83: combinational functions of the
registers of a tick. -/

namespace Sys2Proof.Machine

/-- `match`: every pattern bit equals the history bit at its tap (R122). -/
def matchFlag (c : MatchConfig) (r : MatchRegs) : Level :=
  (List.range c.pattern.length).all fun i => c.pattern[i]? == r.hist[tapPosition c i]?

/-- `sample_strobe` (R127). -/
def sampleStrobe (c : AcqConfig) (r : AcqRegs) : Level :=
  decide (r.state = .sampling) && decide (r.counter = c.sps - 1)

/-- `timer_done` (R183). -/
def timerDone (count : Nat) : Level := decide (count = 0)

/-- `done` of a TXI: its state is READY (R186). -/
def txiDone (r : TxiRegs) : Level := decide (r.state = .ready)

/-- `done` of an RXI: its state is READY (R196). -/
def rxiDone (r : RxiRegs) : Level := decide (r.state = .ready)

/-- The falling edge that WAIT_PMARST_FALL waits for: `pmadone_r = 1 and rxpmaresetdone_s = 0` (R205). -/
def pmarstFalls (r : RxiRegs) : Level := r.pmadoneR && !r.sync.rxpmaresetdone.s2

/-- A configured watchdog expires in this tick: the FSM is not in READY and `wd = WATCHDOG_TICKS - 1`
(R185). -/
def watchdogExpires (watchdog : Option Nat) (ready : Level) (wd : Nat) : Level :=
  match watchdog with
  | none => false
  | some n => !ready && decide (wd = n - 1)

/-- The watchdog of a TXI expires in this tick (R185). -/
def txiExpires (c : TxiConfig) (r : TxiRegs) : Level := watchdogExpires c.watchdog (txiDone r) r.wd

/-- The watchdog of an RXI expires in this tick (R185). -/
def rxiExpires (c : RxiConfig) (r : RxiRegs) : Level := watchdogExpires c.watchdog (rxiDone r) r.wd

/-- The output of the sequencer: the looked-up word, or 0 while the gate is closed (R167). -/
def seqOutput (c : SeqConfig) (r : SeqRegs) : Nat :=
  match c.gateLat with
  | .two => if r.doneD2 then 0 else r.outReg
  | .zero => if r.done then 0 else r.outReg

/-! ### State codes (R83) -/

/-- The code of an ACQ state. -/
def acqCode : AcqState → BitVec 4
  | .searching => 0
  | .measuring => 1
  | .sampling => 2

/-- The code of a TXI state. -/
def txiCode : TxiState → BitVec 4
  | .powerDown => 0
  | .waitPllReset => 1
  | .waitInitDelay => 2
  | .waitGtpReset => 3
  | .ready => 4

/-- The code of an RXI state. -/
def rxiCode : RxiState → BitVec 4
  | .powerDown => 0
  | .drpReadIssue => 1
  | .drpReadWait => 2
  | .drpModIssue => 3
  | .drpModWait => 4
  | .waitPmarstFall => 5
  | .drpRestoreIssue => 6
  | .drpRestoreWait => 7
  | .waitGtpReset => 8
  | .align => 9
  | .waitAlignDone => 10
  | .ready => 11

/-- The code of the SEQ `done` register. -/
def seqCode (done : Bool) : BitVec 4 := if done then 1 else 0

end Sys2Proof.Machine
end

