-- ==== Sys2Proof/Machine/Ops.lean ====
section
/-! DEFINITION. The named operations on the state that the meanings share: the table read, the writes of the
registers of each unit (which land at the tick boundary, R7), the choice of the running link-training
instance, the coming into being of an instance, and taking the one exception of the core,
`ConfigurationError` (R240). There is no return from it (R249). -/

namespace Sys2Proof.Machine

/-- What a meaning answers. -/
abbrev Result := Host.Outcome State Fault Refusal

/-- Go on from a next state; a fault or a refusal stays. -/
def andThen (r : Result) (f : State → Result) : Result :=
  match r with
  | .next s => f s
  | .fault e => .fault e
  | .refused e => .refused e

/-! ### Reads -/

/-- `MemRead(space, addr)`: one whole word, no side effect (R12, R65). -/
def memRead (table : List Nat) (address : Nat) : Option Nat := table[address]?

/-- Go on with the word of a table; outside its words there is none (R63). -/
def withWord (space : TableSpace) (table : List Nat) (address : Nat) (f : Nat → Result) : Result :=
  match memRead table address with
  | some w => f w
  | none => .fault (.tableRange space address)

/-- Go on with the configuration record of a unit; "no rule applies to an unconfigured unit" (R271 (a)). -/
def withConfig {α : Type} (unit : UnitCode) (c : Option α) (f : α → Result) : Result :=
  match c with
  | some c => f c
  | none => .refused (.unitNotConfigured unit)

/-! ### Writes (R7, R12: `r' = v`) -/

/-- The NCO's registers at the tick boundary. -/
def State.writeNco (s : State) (r : NcoRegs) : State := { s with next := { s.next with nco := r } }

/-- The matcher's registers at the tick boundary. -/
def State.writeMatch (s : State) (r : MatchRegs) : State := { s with next := { s.next with matcher := r } }

/-- The acquisition FSM's registers at the tick boundary. -/
def State.writeAcq (s : State) (r : AcqRegs) : State := { s with next := { s.next with acq := r } }

/-- The CORDIC pipeline's registers at the tick boundary. -/
def State.writeCordic (s : State) (r : CordicRegs) : State := { s with next := { s.next with cordic := r } }

/-- The sequencer's registers at the tick boundary. -/
def State.writeSeq (s : State) (r : SeqRegs) : State := { s with next := { s.next with seq := r } }

/-- The state of the TX FSM at the tick boundary. -/
def State.writeTxiState (s : State) (v : TxiState) : State :=
  { s with next := { s.next with txi := { s.next.txi with state := v } } }

/-- The synchronizers of the TXI at the tick boundary. -/
def State.writeTxiSync (s : State) (v : TxiSync) : State :=
  { s with next := { s.next with txi := { s.next.txi with sync := v } } }

/-- The deglitch registers of the TXI at the tick boundary. -/
def State.writeTxiDegl (s : State) (v : TxiPorts) : State :=
  { s with next := { s.next with txi := { s.next.txi with degl := v } } }

/-- The timer of the TXI at the tick boundary. -/
def State.writeTxiCount (s : State) (v : Nat) : State :=
  { s with next := { s.next with txi := { s.next.txi with count := v } } }

/-- The watchdog of the TXI at the tick boundary. -/
def State.writeTxiWd (s : State) (v : Nat) : State :=
  { s with next := { s.next with txi := { s.next.txi with wd := v } } }

/-- The state of the RX FSM at the tick boundary. -/
def State.writeRxiState (s : State) (v : RxiState) : State :=
  { s with next := { s.next with rxi := { s.next.rxi with state := v } } }

/-- `drpvalue` at the tick boundary. -/
def State.writeDrpvalue (s : State) (v : DrpData) : State :=
  { s with next := { s.next with rxi := { s.next.rxi with drpvalue := v } } }

/-- `pmadone_r` at the tick boundary. -/
def State.writePmadone (s : State) (v : Level) : State :=
  { s with next := { s.next with rxi := { s.next.rxi with pmadoneR := v } } }

/-- The synchronizers of the RXI at the tick boundary. -/
def State.writeRxiSync (s : State) (v : RxiSync) : State :=
  { s with next := { s.next with rxi := { s.next.rxi with sync := v } } }

/-- The deglitch registers of the RXI at the tick boundary. -/
def State.writeRxiDegl (s : State) (v : RxiPorts) : State :=
  { s with next := { s.next with rxi := { s.next.rxi with degl := v } } }

/-- The timer of the RXI at the tick boundary. -/
def State.writeRxiCount (s : State) (v : Nat) : State :=
  { s with next := { s.next with rxi := { s.next.rxi with count := v } } }

/-- The watchdog of the RXI at the tick boundary. -/
def State.writeRxiWd (s : State) (v : Nat) : State :=
  { s with next := { s.next with rxi := { s.next.rxi with wd := v } } }

/-! ### The two phases of a tick (R7) -/

/-- The start of a tick: "a register not assigned keeps its value" (R10). -/
def State.latch (s : State) : State := { s with next := s.regs }

/-- The tick boundary: all writes land together (R68 (b)). -/
def State.boundary (s : State) : State := { s with regs := s.next }

/-- The link-training instance whose primitives act. -/
def State.focusOn (s : State) (v : LinkVariant) : State := { s with focus := v }

/-! ### Instances (R270)

No operation of this section changes an input level or a clock domain (notes/assumptions/23.md). -/

/-- An NCO with its registers at their reset values (R100). -/
def State.installNco (s : State) (c : NcoConfig) : State :=
  { s with
    inst := { s.inst with nco := some c }
    regs := { s.regs with nco := ncoResetRegs }
    next := { s.next with nco := ncoResetRegs }
    error := none }

/-- A matcher with its registers at their reset values (R120). -/
def State.installMatch (s : State) (c : MatchConfig) : State :=
  { s with
    inst := { s.inst with matcher := some c }
    regs := { s.regs with matcher := matchResetRegs c }
    next := { s.next with matcher := matchResetRegs c }
    error := none }

/-- An acquisition FSM with its registers at their reset values (R129). -/
def State.installAcq (s : State) (c : AcqConfig) : State :=
  { s with
    inst := { s.inst with acq := some c }
    regs := { s.regs with acq := acqResetRegs }
    next := { s.next with acq := acqResetRegs }
    error := none }

/-- A CORDIC pipeline with its registers at their reset values (R140). -/
def State.installCordic (s : State) (c : CordicConfig) : State :=
  { s with
    inst := { s.inst with cordic := some c }
    regs := { s.regs with cordic := cordicResetRegs c }
    next := { s.next with cordic := cordicResetRegs c }
    error := none }

/-- A sequencer with its registers at their reset values (R160). -/
def State.installSeq (s : State) (c : SeqConfig) : State :=
  { s with
    inst := { s.inst with seq := some c }
    regs := { s.regs with seq := seqResetRegs }
    next := { s.next with seq := seqResetRegs }
    error := none }

/-- A TXI with its registers at their reset values (R188). -/
def State.installTxi (s : State) (c : TxiConfig) : State :=
  { s with
    inst := { s.inst with txi := some c }
    regs := { s.regs with txi := txiResetRegs c }
    next := { s.next with txi := txiResetRegs c }
    error := none }

/-- An RXI with its registers at their reset values (R197). -/
def State.installRxi (s : State) (c : RxiConfig) : State :=
  { s with
    inst := { s.inst with rxi := some c }
    regs := { s.regs with rxi := rxiResetRegs c }
    next := { s.next with rxi := rxiResetRegs c }
    error := none }

/-- The unit a configuration statement configures (R90). -/
def ConfigCall.unit : ConfigCall → ConfigUnit
  | .nco _ => .nco
  | .matcher _ => .matcher
  | .acq _ => .acq
  | .cordic _ => .cordic
  | .seq _ => .seq
  | .txi _ => .txi
  | .rxi _ => .rxi

/-- The instances without that of a unit. -/
def Instances.without (i : Instances) : ConfigUnit → Instances
  | .nco => { i with nco := none }
  | .matcher => { i with matcher := none }
  | .acq => { i with acq := none }
  | .cordic => { i with cordic := none }
  | .seq => { i with seq := none }
  | .txi => { i with txi := none }
  | .rxi => { i with rxi := none }

/-- Destruction: "everything is destroyed with the owning instance" (R20, R270 (5)). The input levels stay as they
are: DESIGN CHOICE (notes/assumptions/23.md). -/
def State.destroy (s : State) (u : ConfigUnit) : State := { s with inst := Instances.without s.inst u }

/-- Taking the exception of R240: the operation returns the cause and the offending parameter set to the
caller and no instance of the unit exists. No register changes (R248). -/
def State.raiseConfigurationError (s : State) (call : ConfigCall) (cause : ConfigCause) : State :=
  { s.destroy (ConfigCall.unit call) with error := some ⟨call, cause⟩ }

/-- What a configuration operation does with its outcome: the instance comes into being, or the exception is
taken (R240). A new instance finds the input levels as they are, those of an earlier instance included: DESIGN
CHOICE (notes/assumptions/23.md). -/
def configureWith {α : Type} (s : State) (call : ConfigCall) (outcome : Except ConfigCause α)
    (install : State → α → State) : Result :=
  match outcome with
  | .ok c => .next (install s c)
  | .error cause => .next (s.raiseConfigurationError call cause)

end Sys2Proof.Machine
end

