-- ==== Sys2Proof/Machine/Cordic.lean ====
section
/-! DEFINITION. The operations of the CordicPipeline (spec/43_cordic.md): `CORDIC.TICK` and
`CORDIC.CONFIG`. -/

namespace Sys2Proof.Machine

/-- `CORDIC.TICK` (R144): every rank moves on, and `final(P[S])` lands in `OUT`. -/
def execCordicTick (s : State) : Result :=
  withConfig .cordic s.inst.cordic fun c =>
    match s.regs.cordic.ranks[c.stages]? with
    | none => .fault (.rankMissing c.stages)
    | some last =>
      .next (s.writeCordic
        ⟨cordicNextRanks c s.inputs s.regs.cordic.ranks, last.x, cordicFinalAngle c last⟩)

/-- `CORDIC.CONFIG` (R140). -/
def execCordicConfig (s : State) : Result :=
  configureWith s (.cordic s.params.cordic) (buildCordic s.params.cordic) State.installCordic

end Sys2Proof.Machine
end

