-- ==== Sys2Proof/Machine/Correlator.lean ====
section
/-! DEFINITION. The operations of the CorrelativeSynchronizer (spec/42_correlator.md): the matcher and the
acquisition FSM, which listens to the matcher's combinational `match`. -/

namespace Sys2Proof.Machine

/-- Go on with the configuration of the acquisition FSM and the `match` of this tick (R122). -/
def withMatch (s : State) (f : AcqConfig → Level → Result) : Result :=
  withConfig .acq s.inst.acq fun a =>
    withConfig .matcher s.inst.matcher fun m => f a (matchFlag m s.regs.matcher)

/-- `MATCH.SHIFT` (R121): every sample moves one position down and the input enters at the end. -/
def execMatchShift (s : State) : Result :=
  withConfig .matcher s.inst.matcher fun _ =>
    .next (s.writeMatch ⟨s.regs.matcher.hist.drop 1 ++ [s.inputs.matchInput]⟩)

/-- `ACQ.CLR` (R124). The state code of the word is not examined. -/
def execAcqClr (_st : BitVec 4) (s : State) : Result :=
  withConfig .acq s.inst.acq fun _ => .next (s.writeAcq ⟨.searching, 0, 0⟩)

/-- `ACQ.SEARCH` (R125). -/
def execAcqSearch (s : State) : Result :=
  withMatch s fun _ found =>
    .next (s.writeAcq ⟨if found then .measuring else .searching, 0, s.regs.acq.counter⟩)

/-- `counter` on match loss: `((eye_width >> 1) + 1) mod 2^CB` (R85, R126). -/
def acqCounterLoad (a : AcqConfig) (eyeWidth : Nat) : Nat := (eyeWidth / 2 + 1) % 2 ^ a.cntBits

/-- `ACQ.MEASURE` (R126). -/
def execAcqMeasure (s : State) : Result :=
  withMatch s fun a found =>
    if found then
      .next (s.writeAcq ⟨.measuring, (s.regs.acq.eyeWidth + 1) % 2 ^ a.cntBits, s.regs.acq.counter⟩)
    else
      .next (s.writeAcq ⟨.sampling, s.regs.acq.eyeWidth, acqCounterLoad a s.regs.acq.eyeWidth⟩)

/-- `ACQ.SAMPLE` (R127). -/
def execAcqSample (s : State) : Result :=
  withConfig .acq s.inst.acq fun a =>
    .next (s.writeAcq
      ⟨.sampling, s.regs.acq.eyeWidth,
       if s.regs.acq.counter = a.sps - 1 then 0 else (s.regs.acq.counter + 1) % 2 ^ a.cntBits⟩)

/-- `MATCH.CONFIG` (R120). -/
def execMatchConfig (s : State) : Result :=
  configureWith s (.matcher s.params.matcher) (buildMatch s.params.matcher) State.installMatch

/-- `ACQ.CONFIG` (R129); the default of `SPS` is the `interval + 1` of the correlator's operands. -/
def execAcqConfig (s : State) : Result :=
  configureWith s (.acq s.params.acq) (buildAcq s.params.matcher.interval s.params.acq) State.installAcq

end Sys2Proof.Machine
end

