-- ==== Sys2Proof/Machine/Nco.lean ====
section
/-! DEFINITION. The operations of the WaveformTable (spec/41_nco.md): `NCO.TICK` and `NCO.BUILD`. -/

namespace Sys2Proof.Machine

/-- `index'`: 0 after the last word, else `index + 1` (R104). -/
def ncoNextIndex (c : NcoConfig) (index : Nat) : Nat :=
  if index = c.table.length - 1 then 0 else index + 1

/-- `NCO.TICK` (R104). -/
def execNcoTick (s : State) : Result :=
  withConfig .nco s.inst.nco fun c =>
    withWord .ncoTable c.table s.regs.nco.index fun w =>
      .next (s.writeNco ⟨ncoNextIndex c s.regs.nco.index, w⟩)

/-- `NCO.BUILD` (R100). -/
def execNcoBuild (s : State) : Result :=
  configureWith s (.nco s.params.nco) (buildNco s.params.nco) State.installNco

end Sys2Proof.Machine
end

