-- ==== Sys2Proof/Machine/Primitives.lean ====
section
/-! DEFINITION. The primitives of a link-training instance (spec/45_linktraining.md, section 1): SYNC2, DEGL,
WTMR and WDOG. Each acts for the instance in focus; a SYNC2 or DEGL operation stands for all synchronizers or
all deglitch registers of the instance. A watchdog that expires has priority over the timer and the FSM of its
instance (R185, R247). -/

namespace Sys2Proof.Machine

/-- Go on with the configuration of the link-training instance in focus. -/
def withLink (unit : UnitCode) (s : State) (tx : TxiConfig → Result) (rx : RxiConfig → Result) : Result :=
  match s.focus with
  | .tx => withConfig unit s.inst.txi tx
  | .rx => withConfig unit s.inst.rxi rx

/-- `SYNC2.TICK` (R181). -/
def execSync2Tick (s : State) : Result :=
  withLink .sync2 s
    (fun _ => .next (s.writeTxiSync (txiSyncShift s.inputs s.regs.txi.sync)))
    (fun _ => .next (s.writeRxiSync (rxiSyncShift s.inputs s.regs.rxi.sync)))

/-- `DEGL.TICK` (R182). -/
def execDeglTick (s : State) : Result :=
  withLink .degl s
    (fun _ => .next (s.writeTxiDegl (txiControls s.regs.txi.state)))
    (fun c => .next (s.writeRxiDegl (rxiControls c s.regs.rxi)))

/-- `WTMR.TICK` (R183). -/
def execWtmrTick (s : State) : Result :=
  withLink .wtmr s
    (fun c => .next (s.writeTxiCount
      (if txiExpires c s.regs.txi then c.timerTicks
       else timerNext (txiWait s.regs.txi) c.timerTicks s.regs.txi.count)))
    (fun c => .next (s.writeRxiCount
      (if rxiExpires c s.regs.rxi then c.timerTicks
       else timerNext (rxiWait s.regs.rxi) c.timerTicks s.regs.rxi.count)))

/-- The watchdog of the TXI (R185): nothing without one, cleared in READY, the restart at expiry, else
counting. -/
def txiWatchdog (s : State) (c : TxiConfig) : State :=
  match c.watchdog with
  | none => s
  | some _ =>
    if txiDone s.regs.txi then s.writeTxiWd 0
    else if txiExpires c s.regs.txi then
      ((s.writeTxiWd 0).writeTxiState .powerDown).writeTxiCount c.timerTicks
    else s.writeTxiWd (s.regs.txi.wd + 1)

/-- The watchdog of the RXI (R185). -/
def rxiWatchdog (s : State) (c : RxiConfig) : State :=
  match c.watchdog with
  | none => s
  | some _ =>
    if rxiDone s.regs.rxi then s.writeRxiWd 0
    else if rxiExpires c s.regs.rxi then
      ((s.writeRxiWd 0).writeRxiState .powerDown).writeRxiCount c.timerTicks
    else s.writeRxiWd (s.regs.rxi.wd + 1)

/-- `WDOG.TICK` (R185). -/
def execWdogTick (s : State) : Result :=
  withLink .wdog s (fun c => .next (txiWatchdog s c)) (fun c => .next (rxiWatchdog s c))

end Sys2Proof.Machine
end

