-- ==== Sys2Proof/Machine/Reset.lean ====
section
/-! DEFINITION. `RST`, what a unit does in a tick in which the reset of its domain is held (R30): each of its
registers takes its reset value at the tick boundary, whatever else the unit's rules say. -/

namespace Sys2Proof.Machine

/-- `RST` (R30). The level of the unit's own reset and its state code have no effect. -/
def execRst (unit : UnitCode) (_x : RstFields) (s : State) : Result :=
  match unit with
  | .nco => withConfig .nco s.inst.nco fun _ => .next (s.writeNco ncoResetRegs)
  | .matcher => withConfig .matcher s.inst.matcher fun c => .next (s.writeMatch (matchResetRegs c))
  | .acq => withConfig .acq s.inst.acq fun _ => .next (s.writeAcq acqResetRegs)
  | .cordic => withConfig .cordic s.inst.cordic fun c => .next (s.writeCordic (cordicResetRegs c))
  | .seq => withConfig .seq s.inst.seq fun _ => .next (s.writeSeq seqResetRegs)
  | .sync2 =>
    withLink .sync2 s (fun _ => .next (s.writeTxiSync txiSyncReset))
      (fun _ => .next (s.writeRxiSync rxiSyncReset))
  | .degl =>
    withLink .degl s (fun _ => .next (s.writeTxiDegl txiDeglReset))
      (fun _ => .next (s.writeRxiDegl rxiDeglReset))
  | .wtmr =>
    withLink .wtmr s (fun c => .next (s.writeTxiCount c.timerTicks))
      (fun c => .next (s.writeRxiCount c.timerTicks))
  | .wdog =>
    withLink .wdog s (fun _ => .next (s.writeTxiWd 0)) (fun _ => .next (s.writeRxiWd 0))
  | .txi => withConfig .txi s.inst.txi fun _ => .next (s.writeTxiState .powerDown)
  | .rxi =>
    withConfig .rxi s.inst.rxi fun _ =>
      .next (((s.writeRxiState .powerDown).writeDrpvalue 0).writePmadone false)

end Sys2Proof.Machine
end

