-- ==== Sys2Proof/Machine/RxLink.lean ====
section
/-! DEFINITION. The operations of the RX link-training FSM (spec/45_linktraining.md, section 3). The control
values and `wait` of each state are those of R198 (`rxiControls`, `rxiWait`), which DEGL and WTMR read. Every
operation also copies `rxpmaresetdone_s` into `pmadone_r` (R199). -/

namespace Sys2Proof.Machine

/-- The transition a state selects, against which an expiring watchdog has priority (R185, R247), and the copy
of R199. -/
def rxiGoto (s : State) (c : RxiConfig) (target : RxiState) : Result :=
  .next ((s.writeRxiState (if rxiExpires c s.regs.rxi then .powerDown else target)).writePmadone
    s.regs.rxi.sync.rxpmaresetdone.s2)

/-- `RXI.POWER_DOWN` (R200). -/
def execRxiPowerDown (s : State) : Result :=
  withConfig .rxi s.inst.rxi fun c =>
    rxiGoto s c (if timerDone s.regs.rxi.count then .drpReadIssue else .powerDown)

/-- `RXI.DRP_READ_ISSUE` (R201). -/
def execRxiDrpReadIssue (s : State) : Result :=
  withConfig .rxi s.inst.rxi fun c => rxiGoto s c .drpReadWait

/-- `RXI.DRP_READ_WAIT` (R202): the only write of `drpvalue`. -/
def execRxiDrpReadWait (s : State) : Result :=
  withConfig .rxi s.inst.rxi fun c =>
    if s.inputs.drprdy then rxiGoto (s.writeDrpvalue s.inputs.drpdo) c .drpModIssue
    else rxiGoto s c .drpReadWait

/-- `RXI.DRP_MOD_ISSUE` (R203). -/
def execRxiDrpModIssue (s : State) : Result :=
  withConfig .rxi s.inst.rxi fun c => rxiGoto s c .drpModWait

/-- `RXI.DRP_MOD_WAIT` (R204). -/
def execRxiDrpModWait (s : State) : Result :=
  withConfig .rxi s.inst.rxi fun c =>
    rxiGoto s c (if s.inputs.drprdy then .waitPmarstFall else .drpModWait)

/-- `RXI.WAIT_PMARST_FALL` (R205). -/
def execRxiWaitPmarstFall (s : State) : Result :=
  withConfig .rxi s.inst.rxi fun c =>
    rxiGoto s c (if pmarstFalls s.regs.rxi then .drpRestoreIssue else .waitPmarstFall)

/-- `RXI.DRP_RESTORE_ISSUE` (R206). -/
def execRxiDrpRestoreIssue (s : State) : Result :=
  withConfig .rxi s.inst.rxi fun c => rxiGoto s c .drpRestoreWait

/-- `RXI.DRP_RESTORE_WAIT` (R207). -/
def execRxiDrpRestoreWait (s : State) : Result :=
  withConfig .rxi s.inst.rxi fun c =>
    rxiGoto s c (if s.inputs.drprdy then .waitGtpReset else .drpRestoreWait)

/-- `RXI.WAIT_GTP_RESET` (R208). -/
def execRxiWaitGtpReset (s : State) : Result :=
  withConfig .rxi s.inst.rxi fun c =>
    rxiGoto s c
      (if s.regs.rxi.sync.rxresetdone.s2 then (if c.bufferEnable then .ready else .align)
       else .waitGtpReset)

/-- `RXI.ALIGN` (R209). -/
def execRxiAlign (s : State) : Result :=
  withConfig .rxi s.inst.rxi fun c =>
    rxiGoto s c (if s.regs.rxi.sync.rxdlysresetdone.s2 then .waitAlignDone else .align)

/-- `RXI.WAIT_ALIGN_DONE` (R210). -/
def execRxiWaitAlignDone (s : State) : Result :=
  withConfig .rxi s.inst.rxi fun c =>
    rxiGoto s c (if s.regs.rxi.sync.rxsyncdone.s2 then .ready else .waitAlignDone)

/-- `RXI.READY` (R211). -/
def execRxiReady (s : State) : Result :=
  withConfig .rxi s.inst.rxi fun c =>
    rxiGoto s c (if s.inputs.rxRestart then .powerDown else .ready)

/-- `RXI.CONFIG` (R197). -/
def execRxiConfig (s : State) : Result :=
  configureWith s (.rxi s.params.rxi) (buildRxi s.params.rxi) State.installRxi

end Sys2Proof.Machine
end

