-- ==== Sys2Proof/Machine/Sequencer.lean ====
section
/-! DEFINITION. The operations of the SymbolSequencer (spec/44_sequencer.md). `SEQ.RUN` and `SEQ.IDLE` share
the lookup pipeline of R161 and differ in the counters and `done`. -/

namespace Sys2Proof.Machine

/-- The lookup pipeline of R161 around the counters and `done` of the tick's operation. -/
def seqPipeline (c : SeqConfig) (s : State) (symbolIndex sampleIndex : Nat) (done : Bool) : Result :=
  withWord .seqPacket c.packet s.regs.seq.symbolIndex fun symbol =>
    withWord .seqTable c.table (seqTableAddress c s.regs.seq) fun word =>
      .next (s.writeSeq
        { symbolIndex := symbolIndex
          sampleIndex := sampleIndex
          lastSampleIndex := s.regs.seq.sampleIndex
          symReg := symbol
          outReg := word
          done := done
          doneD1 := s.regs.seq.done
          doneD2 := s.regs.seq.doneD1 })

/-- `SEQ.RUN` (R164). -/
def execSeqRun (s : State) : Result :=
  withConfig .seq s.inst.seq fun c =>
    if seqWindowEnds c s.regs.seq then
      if seqLastSymbol c s.regs.seq then seqPipeline c s 0 0 true
      else seqPipeline c s (s.regs.seq.symbolIndex + 1) 0 false
    else seqPipeline c s s.regs.seq.symbolIndex (s.regs.seq.sampleIndex + 1) false

/-- `SEQ.IDLE` (R165). -/
def execSeqIdle (s : State) : Result :=
  withConfig .seq s.inst.seq fun c => seqPipeline c s 0 0 true

/-- `SEQ.CLR` (R166). The state code of the word is not examined. -/
def execSeqClr (_st : BitVec 4) (s : State) : Result :=
  withConfig .seq s.inst.seq fun _ => .next (s.writeSeq ⟨0, 0, 0, 0, 0, false, false, false⟩)

/-- `SEQ.CONFIG` (R160). -/
def execSeqConfig (s : State) : Result :=
  configureWith s (.seq s.params.seq) (buildSeq s.params.seq) State.installSeq

end Sys2Proof.Machine
end

