-- ==== Sys2Proof/Machine/TxLink.lean ====
section
/-! DEFINITION. The operations of the TX link-training FSM (spec/45_linktraining.md, section 2). The control
values and `wait` of each state are those of R187 (`txiControls`, `txiWait`), which DEGL and WTMR read. -/

namespace Sys2Proof.Machine

/-- The transition a state selects, against which an expiring watchdog has priority (R185, R247). -/
def txiGoto (s : State) (c : TxiConfig) (target : TxiState) : Result :=
  .next (s.writeTxiState (if txiExpires c s.regs.txi then .powerDown else target))

/-- `TXI.POWER_DOWN` (R190). -/
def execTxiPowerDown (s : State) : Result :=
  withConfig .txi s.inst.txi fun c =>
    txiGoto s c (if timerDone s.regs.txi.count then .waitPllReset else .powerDown)

/-- `TXI.WAIT_PLL_RESET` (R191). -/
def execTxiWaitPllReset (s : State) : Result :=
  withConfig .txi s.inst.txi fun c =>
    txiGoto s c (if s.regs.txi.sync.plllock.s2 then .waitInitDelay else .waitPllReset)

/-- `TXI.WAIT_INIT_DELAY` (R192). -/
def execTxiWaitInitDelay (s : State) : Result :=
  withConfig .txi s.inst.txi fun c =>
    txiGoto s c (if timerDone s.regs.txi.count then .waitGtpReset else .waitInitDelay)

/-- `TXI.WAIT_GTP_RESET` (R193). -/
def execTxiWaitGtpReset (s : State) : Result :=
  withConfig .txi s.inst.txi fun c =>
    txiGoto s c (if s.regs.txi.sync.txresetdone.s2 then .ready else .waitGtpReset)

/-- `TXI.READY` (R194). -/
def execTxiReady (s : State) : Result :=
  withConfig .txi s.inst.txi fun c =>
    txiGoto s c (if s.inputs.txRestart then .powerDown else .ready)

/-- `TXI.CONFIG` (R188). -/
def execTxiConfig (s : State) : Result :=
  configureWith s (.txi s.params.txi) (buildTxi s.params.txi) State.installTxi

end Sys2Proof.Machine
end

