-- ==== Sys2Proof/Machine/Dispatch.lean ====
section
/-! DEFINITION. The meaning of every operation of R86, one arm per constructor of `Instr`. -/

namespace Sys2Proof.Machine

-- What one unit does in one tick, or one configuration-time construction (R15): the operation's own rule.
def exec (i : Instr) (s : State) : Host.Outcome State Fault Refusal :=
  match i with
  | .rst unit x => Sys2Proof.Machine.execRst unit x s
  | .ncoTick => Sys2Proof.Machine.execNcoTick s
  | .matchShift => Sys2Proof.Machine.execMatchShift s
  | .acqClr st => Sys2Proof.Machine.execAcqClr st s
  | .acqSearch => Sys2Proof.Machine.execAcqSearch s
  | .acqMeasure => Sys2Proof.Machine.execAcqMeasure s
  | .acqSample => Sys2Proof.Machine.execAcqSample s
  | .cordicTick => Sys2Proof.Machine.execCordicTick s
  | .seqClr st => Sys2Proof.Machine.execSeqClr st s
  | .seqRun => Sys2Proof.Machine.execSeqRun s
  | .seqIdle => Sys2Proof.Machine.execSeqIdle s
  | .sync2Tick => Sys2Proof.Machine.execSync2Tick s
  | .deglTick => Sys2Proof.Machine.execDeglTick s
  | .wtmrTick => Sys2Proof.Machine.execWtmrTick s
  | .wdogTick => Sys2Proof.Machine.execWdogTick s
  | .txiPowerDown => Sys2Proof.Machine.execTxiPowerDown s
  | .txiWaitPllReset => Sys2Proof.Machine.execTxiWaitPllReset s
  | .txiWaitInitDelay => Sys2Proof.Machine.execTxiWaitInitDelay s
  | .txiWaitGtpReset => Sys2Proof.Machine.execTxiWaitGtpReset s
  | .txiReady => Sys2Proof.Machine.execTxiReady s
  | .rxiPowerDown => Sys2Proof.Machine.execRxiPowerDown s
  | .rxiDrpReadIssue => Sys2Proof.Machine.execRxiDrpReadIssue s
  | .rxiDrpReadWait => Sys2Proof.Machine.execRxiDrpReadWait s
  | .rxiDrpModIssue => Sys2Proof.Machine.execRxiDrpModIssue s
  | .rxiDrpModWait => Sys2Proof.Machine.execRxiDrpModWait s
  | .rxiWaitPmarstFall => Sys2Proof.Machine.execRxiWaitPmarstFall s
  | .rxiDrpRestoreIssue => Sys2Proof.Machine.execRxiDrpRestoreIssue s
  | .rxiDrpRestoreWait => Sys2Proof.Machine.execRxiDrpRestoreWait s
  | .rxiWaitGtpReset => Sys2Proof.Machine.execRxiWaitGtpReset s
  | .rxiAlign => Sys2Proof.Machine.execRxiAlign s
  | .rxiWaitAlignDone => Sys2Proof.Machine.execRxiWaitAlignDone s
  | .rxiReady => Sys2Proof.Machine.execRxiReady s
  | .ncoBuild => Sys2Proof.Machine.execNcoBuild s
  | .matchConfig => Sys2Proof.Machine.execMatchConfig s
  | .acqConfig => Sys2Proof.Machine.execAcqConfig s
  | .cordicConfig => Sys2Proof.Machine.execCordicConfig s
  | .seqConfig => Sys2Proof.Machine.execSeqConfig s
  | .txiConfig => Sys2Proof.Machine.execTxiConfig s
  | .rxiConfig => Sys2Proof.Machine.execRxiConfig s

end Sys2Proof.Machine
end

