-- ==== Sys2Proof/Machine/Tick.lean ====
section
/-! DEFINITION. One tick of a clock domain (R6, R7): the selector word of every instance of the domain is
formed from the registers and input levels of the tick (R81), decoded and run; the writes land together at the
tick boundary. Also the other two things the environment can do: configure a unit and destroy an instance
(R270). -/

namespace Sys2Proof.Machine

/-! ### Which operation an instance performs (R81, R86) -/

/-- The unit of a place. -/
def slotUnit : Slot → UnitCode
  | .nco => .nco
  | .matcher => .matcher
  | .acq => .acq
  | .cordic => .cordic
  | .seq => .seq
  | .link .tx .fsm => .txi
  | .link .rx .fsm => .rxi
  | .link _ .sync2 => .sync2
  | .link _ .degl => .degl
  | .link _ .wtmr => .wtmr
  | .link _ .wdog => .wdog

/-- The level of the unit's own reset input (R81). -/
def slotClr (s : State) : Slot → Level
  | .acq => s.inputs.acqReset
  | .seq => s.inputs.seqReset
  | _ => false

/-- The unit's registered state code (R83). -/
def slotCode (s : State) : Slot → BitVec 4
  | .acq => acqCode s.regs.acq.state
  | .seq => seqCode s.regs.seq.done
  | .link .tx .fsm => txiCode s.regs.txi.state
  | .link .rx .fsm => rxiCode s.regs.rxi.state
  | _ => 0

/-- The selector word of the instance at a place, `rst` being the level of its domain's reset (R81). -/
def State.selector (s : State) (rst : Level) (p : Slot) : SelWord :=
  selWord (slotUnit p).code rst (slotClr s p) (slotCode s p)

/-- An instance stands at the place. A watchdog exists only where `WATCHDOG_TICKS` is configured (R185). -/
def State.stands (s : State) : Slot → Bool
  | .nco => s.inst.nco.isSome
  | .matcher => s.inst.matcher.isSome
  | .acq => s.inst.acq.isSome
  | .cordic => s.inst.cordic.isSome
  | .seq => s.inst.seq.isSome
  | .link .tx .wdog => s.inst.txi.any fun c => c.watchdog.isSome
  | .link .rx .wdog => s.inst.rxi.any fun c => c.watchdog.isSome
  | .link .tx _ => s.inst.txi.isSome
  | .link .rx _ => s.inst.rxi.isSome

/-- The operation of the place reads `match` in this tick, `rst` being the level of its domain's reset: the
acquisition FSM in SEARCHING or MEASURING, no reset being held (R86, R125, R126). -/
def State.readsMatch (s : State) (rst : Level) : Slot → Bool
  | .acq => !rst && !s.inputs.acqReset && decide (s.regs.acq.state ≠ .sampling)
  | _ => false

/-- An instance that performs an operation in this tick stands at the place. An operation that reads `match`
needs the matcher (notes/assumptions/14.md); `RST`, `ACQ.CLR` and `ACQ.SAMPLE` do not (R30, R124, R127). -/
def State.present (s : State) (rst : Level) (p : Slot) : Bool :=
  s.stands p && (s.inst.matcher.isSome || !s.readsMatch rst p)

/-! ### Clock domains (R6, R69) -/

/-- The components of the core (R2), the link training in its two variants. The units of one component read each
other's registers and input ports without a synchronizer. -/
inductive Component where
  | nco | correlator | cordic | seq
  | link (v : LinkVariant)
  deriving DecidableEq, Repr

/-- The component of a place. -/
def slotComponent : Slot → Component
  | .nco => .nco
  | .matcher | .acq => .correlator
  | .cordic => .cordic
  | .seq => .seq
  | .link v _ => .link v

/-- Two domains have no component in common. -/
def noCrossing (d e : Domain) : Bool :=
  d.members.all fun p => e.members.all fun q => decide (slotComponent p ≠ slotComponent q)

/-- No place stands in two domains or twice in one (R6), and no component in two, so that no unit reads a register
of another domain (R69, notes/assumptions/3.md). -/
def clocked (domains : List Domain) : Bool :=
  (domains.all fun d => decide d.members.Nodup) && decide (domains.Pairwise fun d e => noCrossing d e = true)

/-! ### Running -/

/-- Decode a selector word and run its operation. -/
def runWord (w : SelWord) (s : State) : Result :=
  match decode w with
  | .ok i => exec i s
  | .error reason => .refused (.reservedSelector reason)

/-- Point the primitives at the link-training instance of a place. -/
def State.focusSlot (s : State) : Slot → State
  | .link v _ => s.focusOn v
  | _ => s

/-- The operation of one place in this tick. -/
def runSlot (rst : Level) (p : Slot) (s : State) : Result :=
  runWord (s.selector rst p) (s.focusSlot p)

/-- The operations of several places in this tick. Each reads the registers of the start of the tick, so their
order does not matter (R68 (d)). -/
def runSlots (rst : Level) : List Slot → State → Result
  | [], s => .next s
  | p :: ps, s => andThen (runSlot rst p s) (runSlots rst ps)

/-- One tick of a domain: every instance of it performs one operation, then all writes land (R7, R86). -/
def tickDomain (d : Domain) (s : State) : Result :=
  andThen (runSlots d.rst (d.members.filter (s.present d.rst)) s.latch) fun t =>
    .next (t.boundary.focusOn s.focus)

/-! ### Input levels (R90) -/

/-- An input port takes a level; one not listed keeps its last level. -/
def applyLevel (i : Inputs) : PortLevel → Inputs
  | .rst _ => i
  | .matchInput v => { i with matchInput := v }
  | .acqReset v => { i with acqReset := v }
  | .cordicX v => { i with cordicX := v }
  | .cordicY v => { i with cordicY := v }
  | .seqReset v => { i with seqReset := v }
  | .txPlllock v => { i with txPlllock := v }
  | .txresetdone v => { i with txresetdone := v }
  | .txRestart v => { i with txRestart := v }
  | .rxPlllock v => { i with rxPlllock := v }
  | .rxresetdone v => { i with rxresetdone := v }
  | .rxdlysresetdone v => { i with rxdlysresetdone := v }
  | .rxsyncdone v => { i with rxsyncdone := v }
  | .rxpmaresetdone v => { i with rxpmaresetdone := v }
  | .rxRestart v => { i with rxRestart := v }
  | .drprdy v => { i with drprdy := v }
  | .drpdo v => { i with drpdo := v }

/-- The input levels of a tick. -/
def applyLevels (i : Inputs) (levels : List PortLevel) : Inputs := levels.foldl applyLevel i

/-- The domain's `rst` takes a level. -/
def applyRst (r : Level) : PortLevel → Level
  | .rst v => v
  | _ => r

/-- The domain with its `rst` level of a tick. -/
def domainLevels (d : Domain) (levels : List PortLevel) : Domain :=
  { d with rst := levels.foldl applyRst d.rst }

/-! ### What the environment does next -/

/-- The operands a configuration statement presents (R90). -/
def presentOperands (p : Params) : ConfigCall → Params
  | .nco o => { p with nco := o }
  | .matcher o => { p with matcher := o }
  | .acq o => { p with acq := o }
  | .cordic o => { p with cordic := o }
  | .seq o => { p with seq := o }
  | .txi o => { p with txi := o }
  | .rxi o => { p with rxi := o }

/-- A configuration statement: its operands are presented and the unit's configuration operation runs. -/
def stepConfigure (call : ConfigCall) (s : State) : Result :=
  runWord (configWord (ConfigCall.unit call)) { s with params := presentOperands s.params call }

/-- The state of a tick in domain `n`: the levels are applied to the input ports and to the domain. -/
def withLevels (n : Nat) (d : Domain) (levels : List PortLevel) (s : State) : State :=
  { s with
    inputs := applyLevels s.inputs levels
    domains := s.domains.set n (domainLevels d levels) }

/-- A tick statement in domain `n`; where there is no such domain nothing ticks. A partition in which a unit would
read across two domains is refused (R69). -/
def stepTick (n : Nat) (levels : List PortLevel) (s : State) : Result :=
  match s.domains[n]? with
  | none => .next s
  | some d =>
    if clocked s.domains then tickDomain (domainLevels d levels) (withLevels n d levels s)
    else .refused .domainCrossing

/-- What the machine does on one statement of the environment. -/
def stepStim (e : Stim) (s : State) : Result :=
  match e with
  | .configure call => stepConfigure call s
  | .tick n levels => stepTick n levels s
  | .destroy u => .next (s.destroy u)

/-- One step: the next statement of the environment; without one nothing happens. -/
def stepScript (s : State) : Result :=
  match s.script with
  | [] => .next s
  | e :: rest => stepStim e { s with script := rest }

end Sys2Proof.Machine
end

