-- ==== Sys2Proof/Machine/Load.lean ====
section
/-! DEFINITION. Making a given operation the next one. The core fetches nothing (R23, R80): the selector word
of an instance is formed from its registers and input levels (R81). To have the next step form a given word,
the instance must exist, its state register and level inputs must have the values the word spells, it must be
alone in the domain that ticks, and the environment's next statement must be that tick. -/

namespace Sys2Proof.Machine

/-- The place of a unit; a primitive's is that of the TXI. -/
def unitSlot : UnitCode → Slot
  | .nco => .nco
  | .matcher => .matcher
  | .acq => .acq
  | .cordic => .cordic
  | .seq => .seq
  | .sync2 => .link .tx .sync2
  | .degl => .link .tx .degl
  | .wtmr => .link .tx .wtmr
  | .wdog => .link .tx .wdog
  | .txi => .link .tx .fsm
  | .rxi => .link .rx .fsm

/-- The ACQ state of a code (R83). -/
def acqStateOf? (st : BitVec 4) : Option AcqState :=
  match st.toNat with
  | 0 => some .searching
  | 1 => some .measuring
  | 2 => some .sampling
  | _ => none

/-- The TXI state of a code (R83). -/
def txiStateOf? (st : BitVec 4) : Option TxiState :=
  match st.toNat with
  | 0 => some .powerDown
  | 1 => some .waitPllReset
  | 2 => some .waitInitDelay
  | 3 => some .waitGtpReset
  | 4 => some .ready
  | _ => none

/-- The RXI state of a code (R83). -/
def rxiStateOf? (st : BitVec 4) : Option RxiState :=
  match st.toNat with
  | 0 => some .powerDown
  | 1 => some .drpReadIssue
  | 2 => some .drpReadWait
  | 3 => some .drpModIssue
  | 4 => some .drpModWait
  | 5 => some .waitPmarstFall
  | 6 => some .drpRestoreIssue
  | 7 => some .drpRestoreWait
  | 8 => some .waitGtpReset
  | 9 => some .align
  | 10 => some .waitAlignDone
  | 11 => some .ready
  | _ => none

/-- The state with the instance that `build` yields, if it yields one. -/
def installIf {α : Type} (s : State) (install : State → α → State) : Except ConfigCause α → State
  | .ok c => install s c
  | .error _ => s

/-- A smallest legal instance where the unit has none: "no rule applies to an unconfigured unit" (R271 (a)).
The acquisition FSM also gets the matcher it listens to, and a link-training instance a watchdog. -/
def State.withInstance (s : State) (u : UnitCode) : State :=
  if s.stands (unitSlot u) && (s.inst.matcher.isSome || decide (u ≠ .acq)) then s
  else
    match u with
    | .nco => installIf s State.installNco (buildNco ⟨1, 0, 1, 1, .turns 0, 1, false, .lsbFirst⟩)
    | .matcher => installIf s State.installMatch (buildMatch ⟨[true], 0⟩)
    | .acq =>
      installIf (installIf s State.installMatch (buildMatch ⟨[true], 0⟩)) State.installAcq
        (buildAcq 0 ⟨none, none⟩)
    | .cordic => installIf s State.installCordic (buildCordic ⟨4, 1⟩)
    | .seq => installIf s State.installSeq (buildSeq ⟨[0], [0], 1, 1, [], .two⟩)
    | .sync2 | .degl | .wtmr | .wdog | .txi => installIf s State.installTxi (buildTxi ⟨1, false, some 1⟩)
    | .rxi => installIf s State.installRxi (buildRxi ⟨1, false, some 1, 0x011, 0xF7FF⟩)

/-- The unit's state register at the code of the word, where the code is a declared state (R83). -/
def State.withCode (s : State) (u : UnitCode) (st : BitVec 4) : State :=
  match u with
  | .acq =>
    match acqStateOf? st with
    | some v => { s with regs := { s.regs with acq := { s.regs.acq with state := v } } }
    | none => s
  | .seq => { s with regs := { s.regs with seq := { s.regs.seq with done := st.getLsbD 0 } } }
  | .txi =>
    match txiStateOf? st with
    | some v => { s with regs := { s.regs with txi := { s.regs.txi with state := v } } }
    | none => s
  | .rxi =>
    match rxiStateOf? st with
    | some v => { s with regs := { s.regs with rxi := { s.regs.rxi with state := v } } }
    | none => s
  | _ => s

/-- The unit's own level reset at the level of the word (R81). -/
def State.withClr (s : State) (u : UnitCode) (clr : Level) : State :=
  match u with
  | .acq => { s with inputs := { s.inputs with acqReset := clr } }
  | .seq => { s with inputs := { s.inputs with seqReset := clr } }
  | _ => s

/-- The unit of a configuration word's `st` field (R81, R86). -/
def configUnitOf? (st : BitVec 4) : Option ConfigUnit :=
  match st.toNat with
  | 0 => some .nco
  | 1 => some .matcher
  | 2 => some .acq
  | 3 => some .cordic
  | 4 => some .seq
  | 9 => some .txi
  | 10 => some .rxi
  | _ => none

/-- The configuration statement with the operands already presented. -/
def presentedCall (p : Params) : ConfigUnit → ConfigCall
  | .nco => .nco p.nco
  | .matcher => .matcher p.matcher
  | .acq => .acq p.acq
  | .cordic => .cordic p.cordic
  | .seq => .seq p.seq
  | .txi => .txi p.txi
  | .rxi => .rxi p.rxi

/-- The state whose next step forms and runs the selector word: a configuration statement with the operands
presented, or a tick of a domain that holds only the unit. -/
def loadWord (s : State) (w : SelWord) : State :=
  if w.unitField = cfgCode then
    match configUnitOf? w.stField with
    | some u => { s with script := [.configure (presentedCall s.params u)] }
    | none => s
  else
    match UnitCode.ofCode? w.unitField with
    | some u =>
      { ((s.withInstance u).withCode u w.stField).withClr u w.clrField with
        domains := [⟨[unitSlot u], w.rstField⟩]
        script := [.tick 0 []] }
    | none => s

end Sys2Proof.Machine
end

