-- ==== Sys2Proof/Machine/Step.lean ====
section
/-! DEFINITION. One step of the machine, and the state whose next step runs a given selector word. -/

namespace Sys2Proof.Machine

/-- One step: one tick of one clock domain, or one configuration-time act of the environment (R6, R270). -/
def step (s : State) : Host.Outcome State Fault Refusal := stepScript s

/-- `s` with the word `w` of `nbits` bits made the next operation (notes/assumptions/9.md). -/
def State.withFetchWord (s : State) (nbits w : Nat) : State := loadWord s (BitVec.ofNat 16 (w % 2 ^ nbits))

end Sys2Proof.Machine
end

