-- ==== Sys2Proof/Machine/Ports.lean ====
section
/-! DEFINITION. The output ports of the core as functions of the state of a tick (R107, R123, R146, R162, R186,
R196). A port of a unit of which no instance exists has no value. -/

namespace Sys2Proof.Machine

/-- The outputs of a CorrelativeSynchronizer that the acquisition FSM drives (R123). -/
structure AcqOutputs where
  sampleStrobe : Level
  state : AcqState
  eyeWidth : Nat
  deriving DecidableEq, Repr

/-- The outputs of a CordicPipeline (R146). -/
structure CordicOutputs where
  magnitude : ℤ
  angle : ℤ
  deriving DecidableEq, Repr

/-- The outputs of a SymbolSequencer (R162). -/
structure SeqOutputs where
  output : Nat
  done : Level
  deriving DecidableEq, Repr

/-- The outputs of a TXI: the boundary ports, which are the deglitch registers, and `done` (R186). -/
structure TxiOutputs where
  ports : TxiPorts
  done : Level
  deriving DecidableEq, Repr

/-- The outputs of an RXI: the boundary ports, the constant `drpaddr`, and `done` (R196). -/
structure RxiOutputs where
  ports : RxiPorts
  drpaddr : DrpAddr
  done : Level
  deriving DecidableEq, Repr

/-- The output `out` of the NCO (R107). -/
def State.ncoOut (s : State) : Option Nat := s.inst.nco.map fun _ => s.regs.nco.out

/-- The output `match` of the matcher (R123). -/
def State.matchOut (s : State) : Option Level := s.inst.matcher.map fun c => matchFlag c s.regs.matcher

/-- The outputs of the acquisition FSM (R123). -/
def State.acqOut (s : State) : Option AcqOutputs :=
  s.inst.acq.map fun c => ⟨sampleStrobe c s.regs.acq, s.regs.acq.state, s.regs.acq.eyeWidth⟩

/-- The outputs of the CORDIC pipeline (R146). -/
def State.cordicOut (s : State) : Option CordicOutputs :=
  s.inst.cordic.map fun _ => ⟨s.regs.cordic.magnitude, s.regs.cordic.angle⟩

/-- The outputs of the sequencer (R162). -/
def State.seqOut (s : State) : Option SeqOutputs :=
  s.inst.seq.map fun c => ⟨seqOutput c s.regs.seq, s.regs.seq.done⟩

/-- The outputs of the TXI (R186). -/
def State.txiOut (s : State) : Option TxiOutputs :=
  s.inst.txi.map fun _ => ⟨s.regs.txi.degl, txiDone s.regs.txi⟩

/-- The outputs of the RXI (R196). -/
def State.rxiOut (s : State) : Option RxiOutputs :=
  s.inst.rxi.map fun c => ⟨s.regs.rxi.degl, c.drpAddr, rxiDone s.regs.rxi⟩

end Sys2Proof.Machine
end

