-- ==== Sys2Proof/Safety.lean ====
section
/-! DEFINITION. What the claims about the core are said in: the invariant of R24 for every configured unit, the
operation R86 selects at each place, the unit whose registers an operation writes, the tolerance of the NCO's
search (R100), the composition of the CORDIC stage functions (R145), and runs of consecutive ticks of one clock
domain. -/

namespace Sys2Proof.Safety

open Sys2Proof.Machine

/-! ### The invariant (R21, R24, R63) -/

/-- A configured NCO with its registers: `words = N / W` whole words of `W` bits, "playback index ∈ [0, N/W)"
(R24). -/
structure NcoOk (c : NcoConfig) (r : NcoRegs) : Prop where
  widthPos : 1 ≤ c.width
  wordsPos : 1 ≤ c.table.length
  period : c.period = c.table.length * c.width
  wordBound : ∀ w ∈ c.table, w < 2 ^ c.width
  indexBound : r.index < c.table.length
  outBound : r.out < 2 ^ c.width

/-- A configured matcher: the history has length `(patternLen-1)*(interval+1)+1` (R24, R120). -/
structure MatchOk (c : MatchConfig) (r : MatchRegs) : Prop where
  patternPos : 1 ≤ c.pattern.length
  spacingPos : 1 ≤ c.spacing
  histLength : r.hist.length = (c.pattern.length - 1) * c.spacing + 1

/-- A configured acquisition FSM: EyeWidth and Counter satisfy "0 ≤ value < configured bound", which is `2^CB`
(R24, R129). -/
structure AcqOk (c : AcqConfig) (r : AcqRegs) : Prop where
  spsPos : 1 ≤ c.sps
  cntBitsPos : 1 ≤ c.cntBits
  spsBound : c.sps ≤ 2 ^ c.cntBits
  eyeWidthBound : r.eyeWidth < 2 ^ c.cntBits
  counterBound : r.counter < 2 ^ c.cntBits

/-- A configured CORDIC pipeline: the `S+1` ranks `P[0..S]`, which with `OUT` are the `stages+2` live stages
(R24, R143), and one constant per iteration rank. -/
structure CordicOk (c : CordicConfig) (r : CordicRegs) : Prop where
  bitDepth : 4 ≤ c.bitDepth
  stagesPos : 1 ≤ c.stages
  deltas : c.delta.length = c.stages
  ranks : r.ranks.length = c.stages + 1

/-- A configured sequencer: every table address of R161 is in range (R63). -/
structure SeqOk (c : SeqConfig) (r : SeqRegs) : Prop where
  widthPos : 1 ≤ c.width
  wpsPos : 1 ≤ c.wps
  packetPos : 1 ≤ c.packet.length
  symbols : ∀ s, s ∈ c.packet ∨ s = 0 → baseOf c.base s * c.wps + c.wps ≤ c.table.length
  wordBound : ∀ w ∈ c.table, w < 2 ^ c.width
  symbolIndex : r.symbolIndex < c.packet.length
  sampleIndex : r.sampleIndex < c.wps
  lastSampleIndex : r.lastSampleIndex < c.wps
  symReg : r.symReg ∈ c.packet ∨ r.symReg = 0
  outBound : r.outReg < 2 ^ c.width
  frozen : r.done = true → r.symbolIndex = 0 ∧ r.sampleIndex = 0

/-- A configured TXI: `count` in `[0, T]`, `wd` in `[0, WATCHDOG_TICKS)` (R21). -/
structure TxiOk (c : TxiConfig) (r : TxiRegs) : Prop where
  timerPos : 1 ≤ c.timerTicks
  countBound : r.count ≤ c.timerTicks
  watchdog : ∀ n, c.watchdog = some n → r.wd < n

/-- A configured RXI: `count` in `[0, T]`, `wd` in `[0, WATCHDOG_TICKS)` (R21). -/
structure RxiOk (c : RxiConfig) (r : RxiRegs) : Prop where
  timerPos : 1 ≤ c.timerTicks
  countBound : r.count ≤ c.timerTicks
  watchdog : ∀ n, c.watchdog = some n → r.wd < n

/-- Every place belongs to exactly one clock domain (R6), and no unit reads across two (R69). -/
structure DomainsOk (domains : List Domain) : Prop where
  clocked : clocked domains = true
  placed : ∀ p : Slot, ∃ d ∈ domains, p ∈ d.members

/-- The invariant: every configured unit satisfies R24, and the clock domains satisfy R6 and R69. Nothing is said
of a unit of which no instance exists. -/
structure Inv (s : State) : Prop where
  nco : ∀ c, s.inst.nco = some c → NcoOk c s.regs.nco
  matcher : ∀ c, s.inst.matcher = some c → MatchOk c s.regs.matcher
  acq : ∀ c, s.inst.acq = some c → AcqOk c s.regs.acq
  cordic : ∀ c, s.inst.cordic = some c → CordicOk c s.regs.cordic
  seq : ∀ c, s.inst.seq = some c → SeqOk c s.regs.seq
  txi : ∀ c, s.inst.txi = some c → TxiOk c s.regs.txi
  rxi : ∀ c, s.inst.rxi = some c → RxiOk c s.regs.rxi
  domains : DomainsOk s.domains

/-! ### The operation a place performs in a tick (R86) -/

/-- The ACQ operation of a state. -/
def acqOperation : AcqState → Instr
  | .searching => .acqSearch
  | .measuring => .acqMeasure
  | .sampling => .acqSample

/-- The TXI operation of a state. -/
def txiOperation : TxiState → Instr
  | .powerDown => .txiPowerDown
  | .waitPllReset => .txiWaitPllReset
  | .waitInitDelay => .txiWaitInitDelay
  | .waitGtpReset => .txiWaitGtpReset
  | .ready => .txiReady

/-- The RXI operation of a state. -/
def rxiOperation : RxiState → Instr
  | .powerDown => .rxiPowerDown
  | .drpReadIssue => .rxiDrpReadIssue
  | .drpReadWait => .rxiDrpReadWait
  | .drpModIssue => .rxiDrpModIssue
  | .drpModWait => .rxiDrpModWait
  | .waitPmarstFall => .rxiWaitPmarstFall
  | .drpRestoreIssue => .rxiDrpRestoreIssue
  | .drpRestoreWait => .rxiDrpRestoreWait
  | .waitGtpReset => .rxiWaitGtpReset
  | .align => .rxiAlign
  | .waitAlignDone => .rxiWaitAlignDone
  | .ready => .rxiReady

/-- The operation of a place in a tick in which its domain's reset is low. -/
def runningOperation (s : State) : Slot → Instr
  | .nco => .ncoTick
  | .matcher => .matchShift
  | .acq => if s.inputs.acqReset then .acqClr (acqCode s.regs.acq.state) else acqOperation s.regs.acq.state
  | .cordic => .cordicTick
  | .seq =>
    if s.inputs.seqReset then .seqClr (seqCode s.regs.seq.done)
    else if s.regs.seq.done then .seqIdle else .seqRun
  | .link .tx .fsm => txiOperation s.regs.txi.state
  | .link .rx .fsm => rxiOperation s.regs.rxi.state
  | .link _ .sync2 => .sync2Tick
  | .link _ .degl => .deglTick
  | .link _ .wtmr => .wtmrTick
  | .link _ .wdog => .wdogTick

/-- The operation of a place in a tick (R86): `RST` while its domain's reset is held. -/
def slotOperation (s : State) (rst : Level) (p : Slot) : Instr :=
  if rst then .rst (slotUnit p) ⟨slotClr s p, slotCode s p⟩ else runningOperation s p

/-! ### The unit an operation belongs to -/

/-- The configuration operations, which no tick performs (R15, R86). -/
def isConfiguration : Instr → Bool
  | .ncoBuild | .matchConfig | .acqConfig | .cordicConfig | .seqConfig | .txiConfig | .rxiConfig => true
  | .rst _ _ | .ncoTick | .matchShift | .acqClr _ | .acqSearch | .acqMeasure | .acqSample | .cordicTick
  | .seqClr _ | .seqRun | .seqIdle | .sync2Tick | .deglTick | .wtmrTick | .wdogTick
  | .txiPowerDown | .txiWaitPllReset | .txiWaitInitDelay | .txiWaitGtpReset | .txiReady
  | .rxiPowerDown | .rxiDrpReadIssue | .rxiDrpReadWait | .rxiDrpModIssue | .rxiDrpModWait
  | .rxiWaitPmarstFall | .rxiDrpRestoreIssue | .rxiDrpRestoreWait | .rxiWaitGtpReset
  | .rxiAlign | .rxiWaitAlignDone | .rxiReady => false

/-- The link-training instance of a variant. -/
def linkUnit : LinkVariant → ConfigUnit
  | .tx => .txi
  | .rx => .rxi

/-- The configured unit of a ticking unit; a primitive's is the link-training instance in focus. -/
def unitOf (focus : LinkVariant) : UnitCode → ConfigUnit
  | .nco => .nco
  | .matcher => .matcher
  | .acq => .acq
  | .cordic => .cordic
  | .seq => .seq
  | .sync2 | .degl | .wtmr | .wdog => linkUnit focus
  | .txi => .txi
  | .rxi => .rxi

/-- The unit whose registers an operation may write (R21). -/
def operationUnit (focus : LinkVariant) : Instr → ConfigUnit
  | .rst u _ => unitOf focus u
  | .ncoTick | .ncoBuild => .nco
  | .matchShift | .matchConfig => .matcher
  | .acqClr _ | .acqSearch | .acqMeasure | .acqSample | .acqConfig => .acq
  | .cordicTick | .cordicConfig => .cordic
  | .seqClr _ | .seqRun | .seqIdle | .seqConfig => .seq
  | .sync2Tick | .deglTick | .wtmrTick | .wdogTick => linkUnit focus
  | .txiPowerDown | .txiWaitPllReset | .txiWaitInitDelay | .txiWaitGtpReset | .txiReady
  | .txiConfig => .txi
  | .rxiPowerDown | .rxiDrpReadIssue | .rxiDrpReadWait | .rxiDrpModIssue | .rxiDrpModWait
  | .rxiWaitPmarstFall | .rxiDrpRestoreIssue | .rxiDrpRestoreWait | .rxiWaitGtpReset
  | .rxiAlign | .rxiWaitAlignDone | .rxiReady | .rxiConfig => .rxi

/-! ### NCO and CORDIC -/

/-- The frequency realized by a period of `n` samples, `cycles * sample_rate / samples` (R100). -/
def ncoRealized (p : NcoParams) (n : Nat) : ℚ := ncoCycles p n * p.sampleRate / n

/-- A period of `n` samples meets the tolerance: `|realized - frequency| < max_error` (R100). -/
def ncoMeets (p : NcoParams) (n : Nat) : Prop := |ncoRealized p n - p.frequency| < p.maxError

/-- The refused operands of `NCO.BUILD` (R100). -/
def ncoBadOperands (p : NcoParams) : Prop :=
  p.width < 1 ∨ p.sampleRate ≤ 0 ∨ p.maxError ≤ 0 ∨ p.frequency < 0

/-- `iter_i` for `i = first, first+1, ...`, one after the other (R145). -/
def cordicRotate (first : Nat) : List ℤ → Rank → Rank
  | [], r => r
  | d :: ds, r => cordicRotate (first + 1) ds (cordicIter first d r)

/-- `final(iter_{S-1}(... iter_0(flip(x, y))))` as magnitude and angle (R145). -/
def cordicOutput (c : CordicConfig) (x y : ℤ) : ℤ × ℤ :=
  let r := cordicRotate 0 c.delta (cordicFlip x y)
  (r.x, cordicFinalAngle c r)

/-- The watchdog of the TXI expires in this tick: configured, not in READY, `wd = WATCHDOG_TICKS - 1`
(R185). -/
def TxiExpires (c : TxiConfig) (r : TxiRegs) : Prop :=
  r.state ≠ .ready ∧ ∃ n, c.watchdog = some n ∧ r.wd = n - 1

/-- The watchdog of the RXI expires in this tick (R185). -/
def RxiExpires (c : RxiConfig) (r : RxiRegs) : Prop :=
  r.state ≠ .ready ∧ ∃ n, c.watchdog = some n ∧ r.wd = n - 1

/-- R101's cosine at sample `n` of a carrier of phase `φ` radians. -/
noncomputable def ncoCosine (φ : ℝ) (period : Nat) (cycles : ℤ) (n : Nat) : ℝ :=
  Real.cos (2 * Real.pi * (cycles : ℝ) * (n : ℝ) / (period : ℝ) - φ)

/-- The phase of `φ` radians is the presented one: `2π·p`, or no rational multiple of `2π` whose samples are the
list (R101, R103). -/
def PresentsPhase (period : Nat) (cycles : ℤ) (φ : ℝ) : Phase → Prop
  | .turns p => φ = 2 * Real.pi * (p : ℝ)
  | .samples l =>
    Irrational (φ / (2 * Real.pi)) ∧ l.length = period ∧
    ∀ n, n < period → (l[n]? = some true ↔ 0 < ncoCosine φ period cycles n)

/-! ### Runs of one clock domain -/

/-- The places of domain `d`. -/
def members (s : State) (d : Nat) : List Slot := ((s.domains[d]?).map Domain.members).getD []

/-- `rst` of domain `d`. -/
def rstLevel (s : State) (d : Nat) : Level := ((s.domains[d]?).map Domain.rst).getD false

/-- The registers of the units that have a place among `l` are the same. -/
structure AgreeOn (l : List Slot) (q r : Regs) : Prop where
  nco : .nco ∈ l → q.nco = r.nco
  matcher : .matcher ∈ l → q.matcher = r.matcher
  acq : .acq ∈ l → q.acq = r.acq
  cordic : .cordic ∈ l → q.cordic = r.cordic
  seq : .seq ∈ l → q.seq = r.seq
  txi : ∀ p, .link .tx p ∈ l → q.txi = r.txi
  rxi : ∀ p, .link .rx p ∈ l → q.rxi = r.rxi

/-- `n` consecutive ticks of domain `d`: `σ k` is the state at the start of tick `k`, and `σ (k+1)` that after
it, which still shows the input levels of tick `k`. -/
def TickRun (d n : Nat) (σ : Nat → State) : Prop :=
  ∀ k, k < n →
    (∃ levels rest, (σ k).script = .tick d levels :: rest) ∧ step (σ k) = .next (σ (k + 1))

/-- The domain reset is low in the first `n` ticks of a run. -/
def RstLow (d n : Nat) (σ : Nat → State) : Prop := ∀ k, k < n → rstLevel (σ (k + 1)) d = false

/-- The state after `k` steps from `s`, as long as there is a next state. -/
def stepTimes : Nat → State → State
  | 0, s => s
  | k + 1, s =>
    match step s with
    | .next t => stepTimes k t
    | _ => s

end Sys2Proof.Safety
end

