-- ==== Sys2Proof/Certificates/Slice0/Obligations.lean ====
section
/-! DEFINITION. The statements for the provers. A result is an equation whose right side names every field that
changes, so that the equation is the frame too. -/

section

open Sys2Proof Sys2Proof.Machine Sys2Proof.Safety

/-! ### Encoding -/

/-- R81, R86, R87: decoding the word of a well-formed operation gives the operation. Well-formed are the operations
with the `clr` and `st` that R87 does not reserve; that it reserves its words also where R86 leaves `clr` or `st`
unexamined is the model's reading (notes/assumptions/8.md). -/
def Obligations.DecodeEncodeRoundTrip : Prop :=
  ∀ i : Instr, i.wellFormed = true → decode (encode i) = .ok i

/-- R86, R87, R88: a word that spells an operation is that operation's one word, and the operation is well-formed;
so no bit of the word is dropped. That R87 reserves its words also where R86 leaves `clr` or `st` unexamined is the
model's reading (notes/assumptions/8.md). -/
def Obligations.DecodedWordIsItsEncoding : Prop :=
  ∀ (w : SelWord) (i : Instr), decode w = .ok i → encode i = w ∧ i.wellFormed = true

/-- R86, R87: exactly these words spell no operation. That R87 reserves its words also where `rst = 1`, and that a
nonzero `st` of a unit without states is refused with `rst = 0` only, is the model's reading
(notes/assumptions/8.md). -/
def Obligations.ReservedWordsRefused : Prop :=
  ∀ w : SelWord,
    let u := w.unitField.toNat
    let st := w.stField.toNat
    (∃ e, decode w = .error e) ↔
      (11 ≤ u ∧ u ≤ 14) ∨ w.zeroField ≠ 0 ∨ (w.clrField = true ∧ u ≠ 2 ∧ u ≠ 4) ∨
        (u = 2 ∧ 3 ≤ st) ∨ (u = 4 ∧ 2 ≤ st) ∨ (u = 9 ∧ 5 ≤ st) ∨ (u = 10 ∧ 12 ≤ st) ∨
        (u = 15 ∧ (w.rstField = true ∨ (5 ≤ st ∧ st ≤ 8) ∨ 11 ≤ st)) ∨
        (w.rstField = false ∧ (u = 0 ∨ u = 1 ∨ u = 3 ∨ (5 ≤ u ∧ u ≤ 8)) ∧ st ≠ 0)

/-- R86: words written out from the rows of the operation table decode to the rows' operations. -/
def Obligations.TableWordsDecode : Prop :=
  decode 0b0000_0_0_000000_0000 = .ok .ncoTick ∧
  decode 0b0001_0_0_000000_0000 = .ok .matchShift ∧
  decode 0b0010_0_1_000000_0010 = .ok (.acqClr 2) ∧
  decode 0b0010_0_0_000000_0001 = .ok .acqMeasure ∧
  decode 0b0011_0_0_000000_0000 = .ok .cordicTick ∧
  decode 0b0100_0_1_000000_0001 = .ok (.seqClr 1) ∧
  decode 0b0100_0_0_000000_0001 = .ok .seqIdle ∧
  decode 0b0101_0_0_000000_0000 = .ok .sync2Tick ∧
  decode 0b0110_0_0_000000_0000 = .ok .deglTick ∧
  decode 0b0111_0_0_000000_0000 = .ok .wtmrTick ∧
  decode 0b1000_0_0_000000_0000 = .ok .wdogTick ∧
  decode 0b1001_0_0_000000_0010 = .ok .txiWaitInitDelay ∧
  decode 0b1010_0_0_000000_0101 = .ok .rxiWaitPmarstFall ∧
  decode 0b1010_1_0_000000_1000 = .ok (.rst .rxi ⟨false, 8⟩) ∧
  decode 0b0010_1_1_000000_0010 = .ok (.rst .acq ⟨true, 2⟩) ∧
  decode 0b1111_0_0_000000_0011 = .ok .cordicConfig ∧
  decode 0b1111_0_0_000000_1010 = .ok .rxiConfig

/-- R81, R86, R87: the word a place forms from any registers and input levels is never reserved, and spells the
operation R86 gives for them. -/
def Obligations.FormedWordsSpellTheirOperation : Prop :=
  ∀ (s : State) (rst : Level) (p : Slot), decode (s.selector rst p) = .ok (slotOperation s rst p)

/-! ### The step -/

/-- R81, R86: in a tick of a domain with one instance, the step runs the operation its word spells on the state
with the tick's input levels, between the latching of the registers and the tick boundary. -/
def Obligations.StepRunsDecodedOperation : Prop :=
  ∀ (s : State) (n : Nat) (levels : List PortLevel) (rest : List Stim) (d : Domain) (p : Slot) (i : Instr),
    s.script = .tick n levels :: rest → s.domains[n]? = some d → d.members = [p] → clocked s.domains = true →
    let rst := (domainLevels d levels).rst
    let u := withLevels n d levels { s with script := rest }
    u.present rst p = true → decode (u.selector rst p) = .ok i →
    step s = andThen (exec i (u.latch.focusSlot p)) fun t => .next (t.boundary.focusOn s.focus)

/-- R86, R90: on a configuration statement the step presents the operands and runs the operation that the unit's
configuration word spells: for each of the seven calls, the unit's operands become those of the call, all others
stay, and the unit's own configuration operation runs. -/
def Obligations.StepRunsConfigurationOperation : Prop :=
  ∀ (s : State) (call : ConfigCall) (rest : List Stim), s.script = .configure call :: rest →
    (∀ i, decode (configWord (ConfigCall.unit call)) = .ok i →
      step s = exec i { s with script := rest, params := presentOperands s.params call }) ∧
    match call with
    | .nco p => step s = exec .ncoBuild { s with script := rest, params := { s.params with nco := p } }
    | .matcher p => step s = exec .matchConfig { s with script := rest, params := { s.params with matcher := p } }
    | .acq p => step s = exec .acqConfig { s with script := rest, params := { s.params with acq := p } }
    | .cordic p => step s = exec .cordicConfig { s with script := rest, params := { s.params with cordic := p } }
    | .seq p => step s = exec .seqConfig { s with script := rest, params := { s.params with seq := p } }
    | .txi p => step s = exec .txiConfig { s with script := rest, params := { s.params with txi := p } }
    | .rxi p => step s = exec .rxiConfig { s with script := rest, params := { s.params with rxi := p } }

/-- R7, R68 (a) to (c), R86: in a tick every present place of the domain performs one operation, chosen by the
registers and levels of the start of the tick, and all writes land together. The model's choices and deductions: a
place without an instance is not present (notes/assumptions/13.md), nor is an ACQ whose operation reads `match` and
has no matcher (notes/assumptions/14.md); and a partition in which a unit stands in two domains or would read
another's registers (R6, R69) is refused (notes/assumptions/3.md). -/
def Obligations.TickRunsEveryUnitOnce : Prop :=
  ∀ (s : State) (n : Nat) (levels : List PortLevel) (rest : List Stim) (d : Domain),
    s.script = .tick n levels :: rest → s.domains[n]? = some d →
    let rst := (domainLevels d levels).rst
    let u := withLevels n d levels { s with script := rest }
    (clocked s.domains = true →
      step s = andThen
        ((d.members.filter (u.present rst)).foldl
          (fun r p => andThen r fun t => exec (slotOperation u rst p) (t.focusSlot p)) (.next u.latch))
        fun t => .next (t.boundary.focusOn s.focus)) ∧
    (clocked s.domains = false → step s = .refused .domainCrossing)

/-- R68 (d): the order in which the units of a domain are evaluated within a tick cannot change the result. -/
def Obligations.UnitOrderIsIrrelevant : Prop :=
  ∀ (s t : State) (d : Domain) (l : List Slot),
    l.Perm d.members → tickDomain d s = .next t → tickDomain { d with members := l } s = .next t

/-- R270 (5), R20, and the model's choices: what an empty script and an absent domain do (notes/assumptions/1.md),
that the registers of a destroyed instance stay in the state (notes/assumptions/21.md), and that the input levels
and the `rst` levels of the domains outlive it (notes/assumptions/23.md). -/
def Obligations.OtherStatementsOfTheEnvironment : Prop :=
  (∀ s : State, s.script = [] → step s = .next s) ∧
  (∀ (s : State) (n : Nat) (levels : List PortLevel) (rest : List Stim),
    s.script = .tick n levels :: rest → s.domains[n]? = none → step s = .next { s with script := rest }) ∧
  (∀ (s : State) (u : ConfigUnit) (rest : List Stim), s.script = .destroy u :: rest →
    step s = .next { s with
      script := rest
      inst :=
        match u with
        | .nco => { s.inst with nco := none }
        | .matcher => { s.inst with matcher := none }
        | .acq => { s.inst with acq := none }
        | .cordic => { s.inst with cordic := none }
        | .seq => { s.inst with seq := none }
        | .txi => { s.inst with txi := none }
        | .rxi => { s.inst with rxi := none } })

/-! ### Reset and the invariant -/

/-- R21, R83, R271 (b), with the model's choices for a core that has no instance yet
(notes/assumptions/2.md, notes/assumptions/3.md). -/
def Obligations.ResetLeavesInitialValues : Prop :=
  State.reset.inst = ⟨none, none, none, none, none, none, none⟩ ∧
  State.reset.regs.nco = ⟨0, 0⟩ ∧
  State.reset.regs.matcher = ⟨[]⟩ ∧
  State.reset.regs.acq = ⟨.searching, 0, 0⟩ ∧
  State.reset.regs.cordic = ⟨[], 0, 0⟩ ∧
  State.reset.regs.seq = ⟨0, 0, 0, 0, 0, false, false, false⟩ ∧
  State.reset.regs.txi = ⟨.powerDown, ⟨⟨false, false⟩, ⟨false, false⟩⟩, ⟨false, false, false, false⟩, 0, 0⟩ ∧
  State.reset.regs.rxi = ⟨.powerDown, 0, false,
    ⟨⟨false, false⟩, ⟨false, false⟩, ⟨false, false⟩, ⟨false, false⟩, ⟨false, false⟩⟩,
    ⟨false, false, false, false, false, false, 0⟩, 0, 0⟩ ∧
  State.reset.inputs = ⟨false, false, 0, 0, false, false, false, false, false, false, false, false, false,
    false, false, 0⟩ ∧
  State.reset.error = none ∧
  State.reset.script = [] ∧
  ∀ d ∈ State.reset.domains, d.rst = false

/-- R24, R6 and R69 at reset: the invariant holds. -/
def Obligations.ResetSatisfiesInvariant : Prop := Inv State.reset

/-- R24, R6, R69: every step keeps the invariant. -/
def Obligations.StepKeepsInvariant : Prop :=
  ∀ s t : State, Inv s → step s = .next t → Inv t

/-- R242: no step stops: nothing faults and nothing is refused. The statement covers more than R242's tick
operations: an empty script and a tick of an absent domain (notes/assumptions/1.md), configuration operations, a
failing one too (notes/assumptions/11.md), places without an instance (notes/assumptions/13.md), and an ACQ in
SEARCHING or MEASURING without a matcher, which stands still by the model's choice (notes/assumptions/14.md). -/
def Obligations.StepNeverStops : Prop :=
  ∀ s : State, Inv s → ∃ t, step s = .next t

/-- R30, R21: `RST` of each unit sets the unit's registers to their reset values, whatever `clr` and `st` are. -/
def Obligations.RstResult : Prop :=
  ∀ (s : State) (x : RstFields),
    (∀ c, s.inst.nco = some c →
      exec (.rst .nco x) s = .next { s with next := { s.next with nco := ⟨0, 0⟩ } }) ∧
    (∀ c, s.inst.matcher = some c →
      exec (.rst .matcher x) s = .next { s with next := { s.next with
        matcher := ⟨List.replicate ((c.pattern.length - 1) * c.spacing + 1) false⟩ } }) ∧
    (∀ c, s.inst.acq = some c →
      exec (.rst .acq x) s = .next { s with next := { s.next with acq := ⟨.searching, 0, 0⟩ } }) ∧
    (∀ c, s.inst.cordic = some c →
      exec (.rst .cordic x) s = .next { s with next := { s.next with
        cordic := ⟨List.replicate (c.stages + 1) ⟨0, 0, 0, false⟩, 0, 0⟩ } }) ∧
    (∀ c, s.inst.seq = some c →
      exec (.rst .seq x) s = .next { s with next := { s.next with
        seq := ⟨0, 0, 0, 0, 0, false, false, false⟩ } }) ∧
    (∀ c, s.inst.txi = some c →
      exec (.rst .txi x) s = .next { s with next := { s.next with
        txi := { s.next.txi with state := .powerDown } } } ∧
      (s.focus = .tx →
        exec (.rst .sync2 x) s = .next { s with next := { s.next with
          txi := { s.next.txi with sync := ⟨⟨false, false⟩, ⟨false, false⟩⟩ } } } ∧
        exec (.rst .degl x) s = .next { s with next := { s.next with
          txi := { s.next.txi with degl := ⟨false, false, false, false⟩ } } } ∧
        exec (.rst .wtmr x) s = .next { s with next := { s.next with
          txi := { s.next.txi with count := c.timerTicks } } } ∧
        exec (.rst .wdog x) s = .next { s with next := { s.next with
          txi := { s.next.txi with wd := 0 } } })) ∧
    (∀ c, s.inst.rxi = some c →
      exec (.rst .rxi x) s = .next { s with next := { s.next with
        rxi := { s.next.rxi with state := .powerDown, drpvalue := 0, pmadoneR := false } } } ∧
      (s.focus = .rx →
        exec (.rst .sync2 x) s = .next { s with next := { s.next with
          rxi := { s.next.rxi with
            sync := ⟨⟨false, false⟩, ⟨false, false⟩, ⟨false, false⟩, ⟨false, false⟩, ⟨false, false⟩⟩ } } } ∧
        exec (.rst .degl x) s = .next { s with next := { s.next with
          rxi := { s.next.rxi with degl := ⟨false, false, false, false, false, false, 0⟩ } } } ∧
        exec (.rst .wtmr x) s = .next { s with next := { s.next with
          rxi := { s.next.rxi with count := c.timerTicks } } } ∧
        exec (.rst .wdog x) s = .next { s with next := { s.next with
          rxi := { s.next.rxi with wd := 0 } } }))

/-- R30, R247 (1), R276: one tick with `rst = 1` leaves every register of every unit of the domain at its reset
value, whatever the other inputs. Without `WATCHDOG_TICKS` there is no register `wd` (R185); that the state has the
field all the same, and that it is left alone, is the model's choice (notes/assumptions/2.md). -/
def Obligations.DomainResetRestoresRegisters : Prop :=
  ∀ (s t : State) (n : Nat) (levels : List PortLevel) (rest : List Stim),
    s.script = .tick n levels :: rest → step s = .next t → rstLevel t n = true →
    (∀ c, .nco ∈ members s n → s.inst.nco = some c → t.regs.nco = ⟨0, 0⟩) ∧
    (∀ c, .matcher ∈ members s n → s.inst.matcher = some c →
      t.regs.matcher = ⟨List.replicate ((c.pattern.length - 1) * c.spacing + 1) false⟩) ∧
    (∀ c, .acq ∈ members s n → s.inst.acq = some c → t.regs.acq = ⟨.searching, 0, 0⟩) ∧
    (∀ c, .cordic ∈ members s n → s.inst.cordic = some c →
      t.regs.cordic = ⟨List.replicate (c.stages + 1) ⟨0, 0, 0, false⟩, 0, 0⟩) ∧
    (∀ c, .seq ∈ members s n → s.inst.seq = some c →
      t.regs.seq = ⟨0, 0, 0, 0, 0, false, false, false⟩) ∧
    (∀ c, linkSlots .tx ⊆ members s n → s.inst.txi = some c →
      t.regs.txi = ⟨.powerDown, ⟨⟨false, false⟩, ⟨false, false⟩⟩, ⟨false, false, false, false⟩, c.timerTicks,
        if c.watchdog.isSome then 0 else s.regs.txi.wd⟩) ∧
    (∀ c, linkSlots .rx ⊆ members s n → s.inst.rxi = some c →
      t.regs.rxi = ⟨.powerDown, 0, false,
        ⟨⟨false, false⟩, ⟨false, false⟩, ⟨false, false⟩, ⟨false, false⟩, ⟨false, false⟩⟩,
        ⟨false, false, false, false, false, false, 0⟩, c.timerTicks,
        if c.watchdog.isSome then 0 else s.regs.rxi.wd⟩)

/-! ### NCO -/

/-- R104: `out` takes the table word at `index`, and `index` goes on, to 0 after the last word. -/
def Obligations.NcoTickResult : Prop :=
  ∀ (s : State) (c : NcoConfig) (w : Nat),
    s.inst.nco = some c → c.table[s.regs.nco.index]? = some w →
    exec .ncoTick s = .next { s with next := { s.next with
      nco := ⟨if s.regs.nco.index = c.table.length - 1 then 0 else s.regs.nco.index + 1, w⟩ } }

/-- R100, R102, R240, R241: `NCO.BUILD` refuses bad operands with `NcoBadParameter`; else it takes the least
multiple of `W` that meets the tolerance, up to `NCO_MAX_SAMPLES`, and fails with `NcoNoPeriod` where there is
none. The model's choices: samples that satisfy R101 for no phase are refused with `NcoBadParameter`
(notes/assumptions/10.md);
a success clears the error, and a failure removes an instance that existed
(notes/assumptions/11.md), whose register fields stay (notes/assumptions/21.md); a new instance finds the input and
`rst` levels of an earlier one, and a failure leaves them (notes/assumptions/23.md). -/
def Obligations.NcoBuildOutcome : Prop :=
  ∀ s : State,
    let p := s.params.nco
    let w := p.width.toNat
    let refused (cause : ConfigCause) : Result :=
      .next { s with inst := { s.inst with nco := none }, error := some ⟨.nco p, cause⟩ }
    (ncoBadOperands p → exec .ncoBuild s = refused .ncoBadParameter) ∧
    (¬ ncoBadOperands p →
      (∀ k : Nat, 1 ≤ k → ((k * w : Nat) : ℤ) ≤ p.maxSamples → ¬ ncoMeets p (k * w)) →
      exec .ncoBuild s = refused .ncoNoPeriod) ∧
    (¬ ncoBadOperands p → ∀ k : Nat, 1 ≤ k → ((k * w : Nat) : ℤ) ≤ p.maxSamples → ncoMeets p (k * w) →
      (∀ j : Nat, 1 ≤ j → j < k → ¬ ncoMeets p (j * w)) →
      ((∃ φ, PresentsPhase (k * w) (ncoCycles p (k * w)) φ p.phase) →
        exec .ncoBuild s = .next { s with
          inst := { s.inst with
            nco := some ⟨p, w, k * w, ncoCycles p (k * w),
              (List.range k).map (ncoWord p w (k * w) (ncoCycles p (k * w)))⟩ }
          regs := { s.regs with nco := ⟨0, 0⟩ }
          next := { s.next with nco := ⟨0, 0⟩ }
          error := none }) ∧
      ((¬ ∃ φ, PresentsPhase (k * w) (ncoCycles p (k * w)) φ p.phase) →
        exec .ncoBuild s = refused .ncoBadParameter))

/-- R11, R100: `cycles` is the integer nearest to `samples * frequency / sample_rate`, the even one of two
equally near. -/
def Obligations.NcoCyclesRoundHalfToEven : Prop :=
  ∀ (p : NcoParams) (n : Nat), 0 < p.sampleRate →
    |(n : ℚ) * p.frequency / p.sampleRate - ncoCycles p n| ≤ 1 / 2 ∧
    (|(n : ℚ) * p.frequency / p.sampleRate - ncoCycles p n| = 1 / 2 → Even (ncoCycles p n))

/-- R106 (a), R100: the realized frequency of every built NCO is within the tolerance, and its period is the
minimal multiple of `W` of which this holds. -/
def Obligations.NcoRealizedFrequencyWithinTolerance : Prop :=
  ∀ (s t : State) (c : NcoConfig), exec .ncoBuild s = .next t → t.inst.nco = some c →
    |(c.cycles : ℚ) * s.params.nco.sampleRate / c.period - s.params.nco.frequency|
        < s.params.nco.maxError ∧
    (c.width : ℤ) = s.params.nco.width ∧
    1 ≤ c.table.length ∧
    c.period = c.table.length * c.width ∧
    ∀ k : Nat, 1 ≤ k → k * c.width < c.period →
      ¬ |(ncoCycles s.params.nco (k * c.width) : ℚ) * s.params.nco.sampleRate / ((k * c.width : Nat) : ℚ)
          - s.params.nco.frequency| < s.params.nco.maxError

/-- R101, R102, R103, R64: for every phase that the operands present, bit `j` (under `lsb_first`; bit `W-1-j`
under `msb_first`) of table word `k` is the sign of the real cosine at sample `k*W+j`, and `ZERO_SIGN_BIT` where
the cosine is 0; and the operands of a built NCO present a phase. The form of the operand is the model's choice
(notes/assumptions/10.md). -/
def Obligations.NcoTableHoldsCosineSigns : Prop :=
  ∀ (s t : State) (c : NcoConfig), exec .ncoBuild s = .next t → t.inst.nco = some c →
    (∃ φ, PresentsPhase c.period c.cycles φ s.params.nco.phase) ∧
    ∀ φ, PresentsPhase c.period c.cycles φ s.params.nco.phase →
      ∀ k j, k < c.table.length → j < c.width →
        let x := ncoCosine φ c.period c.cycles (k * c.width + j)
        let bit := match s.params.nco.packOrder with
          | .lsbFirst => j
          | .msbFirst => c.width - 1 - j
        ∃ w, c.table[k]? = some w ∧
          (0 < x → w.testBit bit = true) ∧
          (x < 0 → w.testBit bit = false) ∧
          (x = 0 → w.testBit bit = s.params.nco.zeroSignBit)

/-- R8, R103: every real phase in radians is presented by an operand; the lists of samples that are accepted are
exactly those that satisfy R101 for some phase that is no rational multiple of `2π`; and for every phase some
rational number of turns has the same samples. The form of the operand is the model's choice
(notes/assumptions/10.md). -/
def Obligations.NcoEveryRealPhaseIsPresented : Prop :=
  ∀ (period : Nat) (cycles : ℤ), 0 < period →
    (∀ φ : ℝ, ∃ phase, PresentsPhase period cycles φ phase) ∧
    (∀ l, ncoAdmits period cycles l = true ↔ ∃ φ, PresentsPhase period cycles φ (.samples l)) ∧
    (∀ (φ : ℝ) (zeroSign : Bool), ∃ turns : ℚ, ∀ n : Nat, n < period →
      let x := ncoCosine φ period cycles n
      (0 < x → ncoSample zeroSign turns period cycles n = true) ∧
      (x < 0 → ncoSample zeroSign turns period cycles n = false) ∧
      (x = 0 → ncoSample zeroSign turns period cycles n = zeroSign))

/-- R105: in a run without reset from the registers of tick 0, `index(t) = t mod words` and
`out(t) = table[(t-1) mod words]`; `out` is periodic; and reading each word from bit 0 up gives the samples
`s[m mod N]`. -/
def Obligations.NcoPlaybackClosedForm : Prop :=
  ∀ (d n : Nat) (σ : Nat → State) (c : NcoConfig),
    TickRun d n σ → RstLow d n σ → .nco ∈ members (σ 0) d → (σ 0).inst.nco = some c →
    1 ≤ c.table.length → (σ 0).regs.nco = ⟨0, 0⟩ →
    ∀ t, 1 ≤ t → t ≤ n →
      (σ t).regs.nco.index = t % c.table.length ∧
      c.table[(t - 1) % c.table.length]? = some (σ t).regs.nco.out ∧
      (t + c.table.length ≤ n → (σ (t + c.table.length)).regs.nco.out = (σ t).regs.nco.out) ∧
      ∀ p, buildNco p = .ok c → p.packOrder = .lsbFirst → ∀ j, j < c.width →
        (σ t).regs.nco.out.testBit j =
          ncoSampleOf p c.period c.cycles (((t - 1) * c.width + j) % c.period)

/-! ### CorrelativeSynchronizer -/

/-- R121: every sample moves one position down, and `input` enters at position `L-1`. -/
def Obligations.MatchShiftResult : Prop :=
  ∀ (s : State) (c : MatchConfig), s.inst.matcher = some c → s.regs.matcher.hist ≠ [] →
    ∃ h : List Level,
      exec .matchShift s = .next { s with next := { s.next with matcher := ⟨h⟩ } } ∧
      h.length = s.regs.matcher.hist.length ∧
      (∀ j, j + 1 < h.length → h[j]? = s.regs.matcher.hist[j + 1]?) ∧
      h[h.length - 1]? = some s.inputs.matchInput

/-- R124 to R128: the four operations of the acquisition FSM. `match` is 1 when every pattern bit equals the
history bit at its tap (R122). -/
def Obligations.AcqOperationResults : Prop :=
  ∀ (s : State) (a : AcqConfig), s.inst.acq = some a →
    let r := s.regs.acq
    (∀ st, exec (.acqClr st) s = .next { s with next := { s.next with acq := ⟨.searching, 0, 0⟩ } }) ∧
    (r.counter = a.sps - 1 →
      exec .acqSample s = .next { s with next := { s.next with acq := ⟨.sampling, r.eyeWidth, 0⟩ } }) ∧
    (r.counter ≠ a.sps - 1 →
      exec .acqSample s = .next { s with next := { s.next with
        acq := ⟨.sampling, r.eyeWidth, (r.counter + 1) % 2 ^ a.cntBits⟩ } }) ∧
    ∀ m : MatchConfig, s.inst.matcher = some m →
      ((∀ i, i < m.pattern.length → m.pattern[i]? = s.regs.matcher.hist[i * m.spacing]?) →
        exec .acqSearch s = .next { s with next := { s.next with acq := ⟨.measuring, 0, r.counter⟩ } } ∧
        exec .acqMeasure s = .next { s with next := { s.next with
          acq := ⟨.measuring, (r.eyeWidth + 1) % 2 ^ a.cntBits, r.counter⟩ } }) ∧
      (¬ (∀ i, i < m.pattern.length → m.pattern[i]? = s.regs.matcher.hist[i * m.spacing]?) →
        exec .acqSearch s = .next { s with next := { s.next with acq := ⟨.searching, 0, r.counter⟩ } } ∧
        exec .acqMeasure s = .next { s with next := { s.next with
          acq := ⟨.sampling, r.eyeWidth, (r.eyeWidth / 2 + 1) % 2 ^ a.cntBits⟩ } })

/-- R120, R129, R240, R241: the outcomes of `MATCH.CONFIG` and `ACQ.CONFIG`, with the defaults
`SPS = interval + 1` and the least `CB >= 1` with `2^CB > SPS`. The model's choices:
a success clears the error, and a failure removes an instance that existed
(notes/assumptions/11.md), whose register fields stay (notes/assumptions/21.md); a new instance finds the input and
`rst` levels of an earlier one, and a failure leaves them (notes/assumptions/23.md); the `interval` of the default is the one
last presented to `MATCH.CONFIG` (notes/assumptions/14.md). -/
def Obligations.CorrelatorConfigOutcome : Prop :=
  ∀ s : State,
    (let p := s.params.matcher;
      ((p.pattern = [] ∨ p.interval < 0) →
        exec .matchConfig s = .next { s with
          inst := { s.inst with matcher := none }, error := some ⟨.matcher p, .corrBadParameter⟩ }) ∧
      ∀ interval : Nat, p.pattern ≠ [] → p.interval = interval →
        exec .matchConfig s = .next { s with
          inst := { s.inst with matcher := some ⟨p, p.pattern, interval + 1⟩ }
          regs := { s.regs with
            matcher := ⟨List.replicate ((p.pattern.length - 1) * (interval + 1) + 1) false⟩ }
          next := { s.next with
            matcher := ⟨List.replicate ((p.pattern.length - 1) * (interval + 1) + 1) false⟩ }
          error := none }) ∧
    (let p := s.params.acq
      ∀ sps cb : ℤ,
        (p.sps = some sps ∨ (p.sps = none ∧ sps = s.params.matcher.interval + 1)) →
        (p.cntBits = some cb ∨
          (p.cntBits = none ∧ 1 ≤ cb ∧ sps < 2 ^ cb.toNat ∧
            ∀ b : Nat, 1 ≤ b → (b : ℤ) < cb → 2 ^ b ≤ sps)) →
        ((sps < 1 ∨ cb < 1 ∨ 2 ^ cb.toNat ≤ sps - 1) →
          exec .acqConfig s = .next { s with
            inst := { s.inst with acq := none }, error := some ⟨.acq p, .corrBadParameter⟩ }) ∧
        (¬ (sps < 1 ∨ cb < 1 ∨ 2 ^ cb.toNat ≤ sps - 1) →
          exec .acqConfig s = .next { s with
            inst := { s.inst with acq := some ⟨p, sps.toNat, cb.toNat⟩ }
            regs := { s.regs with acq := ⟨.searching, 0, 0⟩ }
            next := { s.next with acq := ⟨.searching, 0, 0⟩ }
            error := none }))

/-- R121, R122: in a run without reset from the cleared history, `hist(t)[j] = input(t - L + j)`, and 0 before
there was one; `match(t) = 1` iff `input(t - L + i*S_m) = pattern[i]` for every `i`. -/
def Obligations.MatchFollowsInputStream : Prop :=
  ∀ (d n : Nat) (σ : Nat → State) (c : MatchConfig) (l : Nat),
    TickRun d n σ → RstLow d n σ → .matcher ∈ members (σ 0) d → (σ 0).inst.matcher = some c →
    l = (c.pattern.length - 1) * c.spacing + 1 → (σ 0).regs.matcher.hist = List.replicate l false →
    ∀ t, t ≤ n →
      (σ t).regs.matcher.hist.length = l ∧
      (∀ j, j < l → (σ t).regs.matcher.hist[j]? =
        some (if l ≤ t + j then (σ (t + j - l + 1)).inputs.matchInput else false)) ∧
      ((σ t).matchOut = some true ↔ ∀ i, i < c.pattern.length →
        c.pattern[i]? = some (if l ≤ t + i * c.spacing
          then (σ (t + i * c.spacing - l + 1)).inputs.matchInput else false))

/-- R130: the strobe falls on the centre of the match run, shifted by whole symbols. Tick `t0` of the rule is
the first tick of the run. -/
def Obligations.AcqStrobeAlignment : Prop :=
  ∀ (d n : Nat) (σ : Nat → State) (a : AcqConfig) (c : MatchConfig) (m : Nat),
    TickRun d n σ → RstLow d n σ → .acq ∈ members (σ 0) d →
    (σ 0).inst.acq = some a → (σ 0).inst.matcher = some c → 1 ≤ a.sps → a.sps ≤ 2 ^ a.cntBits →
    (σ 0).regs.acq.state = .searching → 1 ≤ m → (m - 1) / 2 + 1 ≤ a.sps - 1 → m - 1 < 2 ^ a.cntBits →
    (∀ k, k < n → (σ k).matchOut = some (decide (k < m))) →
    (∀ k, k < n → (σ (k + 1)).inputs.acqReset = false) →
    ∀ k, k ≤ n →
      (1 ≤ k → k ≤ m → (σ k).regs.acq.state = .measuring) ∧
      (m + 1 ≤ k → (σ k).regs.acq.state = .sampling) ∧
      (k = m + 1 → (σ k).regs.acq.counter = (m - 1) / 2 + 1) ∧
      (sampleStrobe a (σ k).regs.acq = true ↔
        ∃ q, k = m + a.sps - 1 - (m - 1) / 2 + q * a.sps) ∧
      (m % 2 = 1 → (sampleStrobe a (σ k).regs.acq = true ↔
        ∃ q, k = (m - 1) / 2 + a.sps + q * a.sps))

/-! ### CordicPipeline -/

/-- R141 to R144: every rank takes its stage function of the rank before it, and `OUT` takes `final(P[S])`.
`x` and `y` are the signed `B`-bit values at the ports (R146, notes/assumptions/6.md). -/
def Obligations.CordicTickResult : Prop :=
  ∀ (s : State) (c : CordicConfig) (x y : ℤ),
    s.inst.cordic = some c → 4 ≤ c.bitDepth → c.delta.length = c.stages →
    s.regs.cordic.ranks.length = c.stages + 1 →
    -(2 ^ (c.bitDepth - 1)) ≤ x → x < 2 ^ (c.bitDepth - 1) → (2 ^ c.bitDepth ∣ s.inputs.cordicX - x) →
    -(2 ^ (c.bitDepth - 1)) ≤ y → y < 2 ^ (c.bitDepth - 1) → (2 ^ c.bitDepth ∣ s.inputs.cordicY - y) →
    ∃ (ranks : List Rank) (last : Rank),
      s.regs.cordic.ranks[c.stages]? = some last ∧
      exec .cordicTick s = .next { s with next := { s.next with
        cordic := ⟨ranks, last.x,
          if last.flipped then c.piFix - last.angle
          else if last.angle < 0 then last.angle + c.twoPiFix else last.angle⟩ } } ∧
      ranks.length = c.stages + 1 ∧
      ranks[0]? = some (if x < 0 then ⟨-x, y, 0, true⟩ else ⟨x, y, 0, false⟩) ∧
      ∀ i r δ, s.regs.cordic.ranks[i]? = some r → c.delta[i]? = some δ →
        ranks[i + 1]? = some
          (if r.y < 0 then ⟨r.x - r.y / 2 ^ i, r.y + r.x / 2 ^ i, r.angle - δ, r.flipped⟩
           else ⟨r.x + r.y / 2 ^ i, r.y - r.x / 2 ^ i, r.angle + δ, r.flipped⟩)

/-- R140, R240, R241: the outcome of `CORDIC.CONFIG`; what its constants are, `CordicConstantsAreRoundings` says.
The model's choices: a success clears the error, and a failure removes an instance that existed
(notes/assumptions/11.md), whose register fields stay (notes/assumptions/21.md); a new instance finds the input and
`rst` levels of an earlier one, and a failure leaves them (notes/assumptions/23.md). -/
def Obligations.CordicConfigOutcome : Prop :=
  ∀ s : State,
    let p := s.params.cordic
    ((p.bitDepth < 4 ∨ p.stages < 1) →
      exec .cordicConfig s = .next { s with
        inst := { s.inst with cordic := none }, error := some ⟨.cordic p, .cordicBadParameter⟩ }) ∧
    (4 ≤ p.bitDepth → 1 ≤ p.stages → ∃ (b n : Nat),
      (b : ℤ) = p.bitDepth ∧ (n : ℤ) = p.stages ∧
      exec .cordicConfig s = .next { s with
        inst := { s.inst with
          cordic := some ⟨p, b, n, (List.range n).map (cordicDelta (b - 4)), cordicPi (b - 4),
            cordicTwoPi (b - 4)⟩ }
        regs := { s.regs with cordic := ⟨List.replicate (n + 1) ⟨0, 0, 0, false⟩, 0, 0⟩ }
        next := { s.next with cordic := ⟨List.replicate (n + 1) ⟨0, 0, 0, false⟩, 0, 0⟩ }
        error := none })

/-- R140, R84: for every `B >= 4` and `S >= 1` the constants of a configured pipeline are the roundings of the
real numbers. -/
def Obligations.CordicConstantsAreRoundings : Prop :=
  ∀ (s t : State) (c : CordicConfig), exec .cordicConfig s = .next t → t.inst.cordic = some c →
    c.delta.length = c.stages ∧
    (∀ i, i < c.stages →
      c.delta[i]? = some (round ((2 : ℝ) ^ (c.bitDepth - 4) * Real.arctan ((2 : ℝ)⁻¹ ^ i)))) ∧
    c.piFix = round ((2 : ℝ) ^ (c.bitDepth - 4) * Real.pi) ∧
    c.twoPiFix = round ((2 : ℝ) ^ (c.bitDepth - 4) * (2 * Real.pi))

/-- R140, R147 (b): for every `B` in 4..32 the first enclosure decides all constants up to `S = 64`
(notes/assumptions/7.md), and they satisfy the inequalities of R147 (b) for the listed `S`. -/
def Obligations.CordicConstantsDecided : Prop :=
  ∀ b, b < 29 →
    (∀ i, i < 64 → (decidedDelta b i).isSome = true) ∧ (decidedPi b).isSome = true ∧
    (decidedTwoPi b).isSome = true ∧
    ∀ n ∈ [1, 2, 4, 8, 16, 32, 64],
      ((List.range n).map (cordicDelta b)).sum ≤ cordicPi b ∧
      cordicPi b + ((List.range n).map (cordicDelta b)).sum < cordicTwoPi b ∧
      cordicTwoPi b < 2 ^ (b + 3)

/-- R145: the `OUT` of tick `t + S + 2` is the result for the inputs of tick `t`, for every input, with no
stalls. A script's integer outside of the signed `B`-bit range is read modulo `2^B`, the model's choice
(notes/assumptions/6.md). -/
def Obligations.CordicLatency : Prop :=
  ∀ (d n : Nat) (σ : Nat → State) (c : CordicConfig),
    TickRun d n σ → RstLow d n σ → .cordic ∈ members (σ 0) d → (σ 0).inst.cordic = some c →
    c.delta.length = c.stages → (σ 0).regs.cordic.ranks.length = c.stages + 1 →
    ∀ t, t + c.stages + 2 ≤ n →
      ((σ (t + c.stages + 2)).regs.cordic.magnitude, (σ (t + c.stages + 2)).regs.cordic.angle) =
        cordicOutput c (cordicPortX c (σ (t + 1)).inputs) (cordicPortY c (σ (t + 1)).inputs)

/-- R149: during the first `S + 1` ticks after reset `OUT` is `final` of reset zeros that have passed through
the last iterations: magnitude 0, and the sum of the last constants as angle. -/
def Obligations.CordicWarmUp : Prop :=
  ∀ (d n : Nat) (σ : Nat → State) (c : CordicConfig),
    TickRun d n σ → RstLow d n σ → .cordic ∈ members (σ 0) d → (σ 0).inst.cordic = some c →
    c.delta.length = c.stages → (∀ δ ∈ c.delta, 0 ≤ δ) →
    (σ 0).regs.cordic = ⟨List.replicate (c.stages + 1) ⟨0, 0, 0, false⟩, 0, 0⟩ →
    ∀ t, t ≤ n → t ≤ c.stages + 1 →
      (σ t).regs.cordic.magnitude = 0 ∧
      (σ t).regs.cordic.angle = (c.delta.drop (c.stages + 1 - t)).sum

/-- R147 (b): with constants that satisfy its inequalities, `0 <= angle < TWO_PI_FIX` at every tick of a run
from the reset registers, for every input. -/
def Obligations.CordicAngleInRange : Prop :=
  ∀ (d n : Nat) (σ : Nat → State) (c : CordicConfig),
    TickRun d n σ → .cordic ∈ members (σ 0) d → (σ 0).inst.cordic = some c →
    c.delta.length = c.stages → (∀ δ ∈ c.delta, 0 ≤ δ) → c.delta.sum ≤ c.piFix →
    c.piFix + c.delta.sum < c.twoPiFix →
    (σ 0).regs.cordic = ⟨List.replicate (c.stages + 1) ⟨0, 0, 0, false⟩, 0, 0⟩ →
    ∀ t, t ≤ n → 0 ≤ (σ t).regs.cordic.angle ∧ (σ t).regs.cordic.angle < c.twoPiFix

/-- R28, R147 (a): signed `B + 2` bits hold `x` and `y` at every rank whenever `S < 0.7 * 2^(B-1)`, for every
signed `B`-bit input. A script's integer outside of that range is read as one in it, modulo `2^B`, which is the
model's choice (notes/assumptions/6.md). -/
def Obligations.CordicRanksFitInTwoMoreBits : Prop :=
  ∀ (d n : Nat) (σ : Nat → State) (c : CordicConfig),
    TickRun d n σ → .cordic ∈ members (σ 0) d → (σ 0).inst.cordic = some c →
    4 ≤ c.bitDepth → c.delta.length = c.stages → 10 * c.stages < 7 * 2 ^ (c.bitDepth - 1) →
    (σ 0).regs.cordic = ⟨List.replicate (c.stages + 1) ⟨0, 0, 0, false⟩, 0, 0⟩ →
    ∀ t, t ≤ n → ∀ r ∈ (σ t).regs.cordic.ranks,
      -(2 ^ (c.bitDepth + 1)) ≤ r.x ∧ r.x < 2 ^ (c.bitDepth + 1) ∧
      -(2 ^ (c.bitDepth + 1)) ≤ r.y ∧ r.y < 2 ^ (c.bitDepth + 1)

/-! ### SymbolSequencer -/

/-- R8, R160, R161, R164 to R166: the three operations of the sequencer, and `base`, which their table address is
computed with: `base(s) = s` where the map lists no entry for `s`, else the listed offset. That `base` is given as
a list, and that the first of two entries for a symbol counts, is the model's choice (notes/assumptions/15.md). -/
def Obligations.SeqOperationResults : Prop :=
  (∀ (base : BaseMap) (sym : Nat), (∀ offset, (sym, offset) ∉ base) → baseOf base sym = sym) ∧
  (∀ (before after : BaseMap) (sym offset : Nat), (∀ other, (sym, other) ∉ before) →
    baseOf (before ++ (sym, offset) :: after) sym = offset) ∧
  ∀ (s : State) (c : SeqConfig), s.inst.seq = some c →
    let r := s.regs.seq
    (∀ st, exec (.seqClr st) s = .next { s with next := { s.next with
      seq := ⟨0, 0, 0, 0, 0, false, false, false⟩ } }) ∧
    ∀ sym w : Nat, c.packet[r.symbolIndex]? = some sym →
      c.table[baseOf c.base r.symReg * c.wps + r.lastSampleIndex]? = some w →
      exec .seqIdle s = .next { s with next := { s.next with
        seq := ⟨0, 0, r.sampleIndex, sym, w, true, r.done, r.doneD1⟩ } } ∧
      (r.sampleIndex = c.wps - 1 → r.symbolIndex = c.packet.length - 1 →
        exec .seqRun s = .next { s with next := { s.next with
          seq := ⟨0, 0, r.sampleIndex, sym, w, true, r.done, r.doneD1⟩ } }) ∧
      (r.sampleIndex = c.wps - 1 → r.symbolIndex ≠ c.packet.length - 1 →
        exec .seqRun s = .next { s with next := { s.next with
          seq := ⟨r.symbolIndex + 1, 0, r.sampleIndex, sym, w, false, r.done, r.doneD1⟩ } }) ∧
      (r.sampleIndex ≠ c.wps - 1 →
        exec .seqRun s = .next { s with next := { s.next with
          seq := ⟨r.symbolIndex, r.sampleIndex + 1, r.sampleIndex, sym, w, false, r.done, r.doneD1⟩ } })

/-- R160, R240, R241: the outcome of `SEQ.CONFIG`; the first cause that applies is reported (R247). What `base`
is, `SeqOperationResults` says. The model's choices:
a success clears the error, and a failure removes an instance that existed
(notes/assumptions/11.md), whose register fields stay (notes/assumptions/21.md); a new instance finds the input and
`rst` levels of an earlier one, and a failure leaves them (notes/assumptions/23.md). -/
def Obligations.SeqConfigOutcome : Prop :=
  ∀ s : State,
    let p := s.params.seq
    let badWindow := p.width < 1 ∨ p.samplesPerSymbol < p.width ∨ p.samplesPerSymbol % p.width ≠ 0
    let wps := (p.samplesPerSymbol / p.width).toNat
    let outside := ∃ sym, (sym ∈ p.packet ∨ sym = 0) ∧
      p.table.length < baseOf p.base sym * wps + wps
    let tooWide := ∃ v ∈ p.table, 2 ^ p.width.toNat ≤ v
    let failure (cause : ConfigCause) : Host.Outcome State Fault Refusal :=
      .next { s with inst := { s.inst with seq := none }, error := some ⟨.seq p, cause⟩ }
    (badWindow → exec .seqConfig s = failure .seqBadWindow) ∧
    (¬ badWindow → p.packet = [] → exec .seqConfig s = failure .seqEmptyPacket) ∧
    (¬ badWindow → p.packet ≠ [] → outside → exec .seqConfig s = failure .seqSymbolRange) ∧
    (¬ badWindow → p.packet ≠ [] → ¬ outside → tooWide → exec .seqConfig s = failure .seqWordWidth) ∧
    (¬ badWindow → p.packet ≠ [] → ¬ outside → ¬ tooWide →
      exec .seqConfig s = .next { s with
        inst := { s.inst with
          seq := some ⟨p, p.width.toNat, wps, p.table, p.packet, p.base, p.gateLat⟩ }
        regs := { s.regs with seq := ⟨0, 0, 0, 0, 0, false, false, false⟩ }
        next := { s.next with seq := ⟨0, 0, 0, 0, 0, false, false, false⟩ }
        error := none })

/-- R168: the closed form of a whole playback from the cleared registers, with no reset following. What `base` is,
`SeqOperationResults` says. -/
def Obligations.SeqPlaybackClosedForm : Prop :=
  ∀ (d n : Nat) (σ : Nat → State) (c : SeqConfig),
    TickRun d n σ → RstLow d n σ → (∀ k, k < n → (σ (k + 1)).inputs.seqReset = false) →
    .seq ∈ members (σ 0) d → (σ 0).inst.seq = some c → SeqOk c (σ 0).regs.seq → c.gateLat = .two →
    (σ 0).regs.seq = ⟨0, 0, 0, 0, 0, false, false, false⟩ →
    ∀ t, t ≤ n →
      (t < c.packet.length * c.wps →
        (σ t).regs.seq.symbolIndex = t / c.wps ∧ (σ t).regs.seq.sampleIndex = t % c.wps ∧
        (σ t).regs.seq.done = false) ∧
      (c.packet.length * c.wps ≤ t →
        (σ t).regs.seq.symbolIndex = 0 ∧ (σ t).regs.seq.sampleIndex = 0 ∧ (σ t).regs.seq.done = true) ∧
      (t = 0 → seqOutput c (σ t).regs.seq = 0) ∧
      (t = 1 → c.table[baseOf c.base 0 * c.wps]? = some (seqOutput c (σ t).regs.seq)) ∧
      (2 ≤ t → t < c.packet.length * c.wps + 2 →
        ∃ sym, c.packet[(t - 2) / c.wps]? = some sym ∧
          c.table[baseOf c.base sym * c.wps + (t - 2) % c.wps]? = some (seqOutput c (σ t).regs.seq)) ∧
      (c.packet.length * c.wps + 2 ≤ t → seqOutput c (σ t).regs.seq = 0)

/-- R166, R169, R276: after a tick with `reset = 1` the sequencer replays, tick for tick, what it plays from
its reset registers. -/
def Obligations.SeqReplayIsIdentical : Prop :=
  ∀ (d e n m j : Nat) (σ τ : Nat → State) (c : SeqConfig),
    TickRun d n σ → TickRun e m τ → RstLow d n σ → RstLow e m τ →
    .seq ∈ members (σ 0) d → .seq ∈ members (τ 0) e →
    (σ 0).inst.seq = some c → (τ 0).inst.seq = some c →
    (τ 0).regs.seq = ⟨0, 0, 0, 0, 0, false, false, false⟩ →
    (∀ k, k < m → (τ (k + 1)).inputs.seqReset = false) →
    j < n → (σ (j + 1)).inputs.seqReset = true →
    (∀ k, j < k → k < n → (σ (k + 1)).inputs.seqReset = false) →
    ∀ t, j + 1 + t ≤ n → t ≤ m →
      (σ (j + 1 + t)).regs.seq = (τ t).regs.seq ∧ (σ (j + 1 + t)).seqOut = (τ t).seqOut

/-! ### Link training -/

/-- R181, R182, R186, R187, R196, R198: `SYNC2.TICK` shifts every synchronizer of the instance, and `DEGL.TICK`
puts the control values of the FSM's state into the deglitch registers. -/
def Obligations.SynchronizerAndDeglitchResults : Prop :=
  ∀ s : State,
    (∀ c, s.focus = .tx → s.inst.txi = some c →
      let r := s.regs.txi
      exec .sync2Tick s = .next { s with next := { s.next with txi := { s.next.txi with
        sync := ⟨⟨s.inputs.txPlllock, r.sync.plllock.s1⟩, ⟨s.inputs.txresetdone, r.sync.txresetdone.s1⟩⟩ } } } ∧
      exec .deglTick s = .next { s with next := { s.next with txi := { s.next.txi with
        degl :=
          { pllreset := decide (r.state = .powerDown)
            gttxreset := decide
              (r.state = .powerDown ∨ r.state = .waitPllReset ∨ r.state = .waitInitDelay)
            gttxpd := decide (r.state = .powerDown)
            txuserrdy := decide (r.state = .waitGtpReset ∨ r.state = .ready) } } } }) ∧
    (∀ c, s.focus = .rx → s.inst.rxi = some c →
      let r := s.regs.rxi
      exec .sync2Tick s = .next { s with next := { s.next with rxi := { s.next.rxi with
        sync := ⟨⟨s.inputs.rxPlllock, r.sync.plllock.s1⟩, ⟨s.inputs.rxresetdone, r.sync.rxresetdone.s1⟩,
          ⟨s.inputs.rxdlysresetdone, r.sync.rxdlysresetdone.s1⟩,
          ⟨s.inputs.rxsyncdone, r.sync.rxsyncdone.s1⟩,
          ⟨s.inputs.rxpmaresetdone, r.sync.rxpmaresetdone.s1⟩⟩ } } } ∧
      exec .deglTick s = .next { s with next := { s.next with rxi := { s.next.rxi with
        degl :=
          { gtrxreset := decide (r.state = .powerDown ∨ r.state = .drpReadIssue ∨
              r.state = .drpReadWait ∨ r.state = .drpModIssue ∨ r.state = .drpModWait)
            gtrxpd := decide (r.state = .powerDown)
            rxuserrdy := decide (r.state = .waitGtpReset ∨ r.state = .align ∨
              r.state = .waitAlignDone ∨ r.state = .ready)
            rxdlysreset := decide (r.state = .align)
            drpen := decide
              (r.state = .drpReadIssue ∨ r.state = .drpModIssue ∨ r.state = .drpRestoreIssue)
            drpwe := decide (r.state = .drpModIssue ∨ r.state = .drpRestoreIssue)
            drpdi := if r.state = .drpModIssue then r.drpvalue &&& c.drpModMask else r.drpvalue } } } })

/-- R183, R187, R198, R185, R247 (3): the wait timer counts down while `wait` is 1, not below 0, and reloads
`T` otherwise and when the watchdog expires. -/
def Obligations.WaitTimerResult : Prop :=
  ∀ s : State,
    (∀ c, s.focus = .tx → s.inst.txi = some c →
      let r := s.regs.txi
      let waits := r.state = .powerDown ∨ (r.state = .waitInitDelay ∧ r.sync.plllock.s2 = true)
      let result (v : Nat) : Host.Outcome State Fault Refusal :=
        .next { s with next := { s.next with txi := { s.next.txi with count := v } } }
      (TxiExpires c r ∨ ¬ waits → exec .wtmrTick s = result c.timerTicks) ∧
      (¬ TxiExpires c r → waits → exec .wtmrTick s = result (if r.count ≠ 0 then r.count - 1 else 0))) ∧
    (∀ c, s.focus = .rx → s.inst.rxi = some c →
      let r := s.regs.rxi
      let waits := r.state = .powerDown ∧ r.sync.plllock.s2 = true
      let result (v : Nat) : Host.Outcome State Fault Refusal :=
        .next { s with next := { s.next with rxi := { s.next.rxi with count := v } } }
      (RxiExpires c r ∨ ¬ waits → exec .wtmrTick s = result c.timerTicks) ∧
      (¬ RxiExpires c r → waits → exec .wtmrTick s = result (if r.count ≠ 0 then r.count - 1 else 0)))

/-- R185: the watchdog does nothing where it is not configured, is cleared in READY, restarts the FSM and
reloads the timer when it expires, and counts otherwise. -/
def Obligations.WatchdogResult : Prop :=
  ∀ s : State,
    (∀ c, s.focus = .tx → s.inst.txi = some c →
      let r := s.regs.txi
      let result (v : TxiRegs) : Host.Outcome State Fault Refusal :=
        .next { s with next := { s.next with txi := v } }
      (c.watchdog = none → exec .wdogTick s = .next s) ∧
      ∀ n, c.watchdog = some n →
        (r.state = .ready → exec .wdogTick s = result { s.next.txi with wd := 0 }) ∧
        (r.state ≠ .ready → r.wd = n - 1 → exec .wdogTick s = result { s.next.txi with
          wd := 0, state := .powerDown, count := c.timerTicks }) ∧
        (r.state ≠ .ready → r.wd ≠ n - 1 → exec .wdogTick s = result { s.next.txi with wd := r.wd + 1 })) ∧
    (∀ c, s.focus = .rx → s.inst.rxi = some c →
      let r := s.regs.rxi
      let result (v : RxiRegs) : Host.Outcome State Fault Refusal :=
        .next { s with next := { s.next with rxi := v } }
      (c.watchdog = none → exec .wdogTick s = .next s) ∧
      ∀ n, c.watchdog = some n →
        (r.state = .ready → exec .wdogTick s = result { s.next.rxi with wd := 0 }) ∧
        (r.state ≠ .ready → r.wd = n - 1 → exec .wdogTick s = result { s.next.rxi with
          wd := 0, state := .powerDown, count := c.timerTicks }) ∧
        (r.state ≠ .ready → r.wd ≠ n - 1 → exec .wdogTick s = result { s.next.rxi with wd := r.wd + 1 }))

/-- R190 to R194, R185: the five operations of the TX FSM. -/
def Obligations.TxiOperationResults : Prop :=
  ∀ (s : State) (c : TxiConfig), s.inst.txi = some c →
    let r := s.regs.txi
    let goes (v : TxiState) : Host.Outcome State Fault Refusal :=
      .next { s with next := { s.next with txi := { s.next.txi with state := v } } }
    (TxiExpires c r →
      exec .txiPowerDown s = goes .powerDown ∧ exec .txiWaitPllReset s = goes .powerDown ∧
      exec .txiWaitInitDelay s = goes .powerDown ∧ exec .txiWaitGtpReset s = goes .powerDown ∧
      exec .txiReady s = goes .powerDown) ∧
    (¬ TxiExpires c r →
      exec .txiPowerDown s = goes (if r.count = 0 then .waitPllReset else .powerDown) ∧
      exec .txiWaitPllReset s = goes (if r.sync.plllock.s2 then .waitInitDelay else .waitPllReset) ∧
      exec .txiWaitInitDelay s = goes (if r.count = 0 then .waitGtpReset else .waitInitDelay) ∧
      exec .txiWaitGtpReset s = goes (if r.sync.txresetdone.s2 then .ready else .waitGtpReset) ∧
      exec .txiReady s = goes (if s.inputs.txRestart then .powerDown else .ready))

/-- R199 to R211, R185: the twelve operations of the RX FSM; each copies `rxpmaresetdone_s` into `pmadone_r`,
and `DRP_READ_WAIT` takes `drpdo` into `drpvalue` when `drprdy` is 1, also when the watchdog expires. -/
def Obligations.RxiOperationResults : Prop :=
  ∀ (s : State) (c : RxiConfig), s.inst.rxi = some c →
    let r := s.regs.rxi
    let expired := RxiExpires c r
    let goes (i : Instr) (v : RxiState) : Prop :=
      (expired → exec i s = .next { s with next := { s.next with rxi := { s.next.rxi with
        state := .powerDown, pmadoneR := r.sync.rxpmaresetdone.s2 } } }) ∧
      (¬ expired → exec i s = .next { s with next := { s.next with rxi := { s.next.rxi with
        state := v, pmadoneR := r.sync.rxpmaresetdone.s2 } } })
    goes .rxiPowerDown (if r.count = 0 then .drpReadIssue else .powerDown) ∧
    goes .rxiDrpReadIssue .drpReadWait ∧
    (s.inputs.drprdy = false → goes .rxiDrpReadWait .drpReadWait) ∧
    (s.inputs.drprdy = true → expired →
      exec .rxiDrpReadWait s = .next { s with next := { s.next with rxi := { s.next.rxi with
        state := .powerDown, drpvalue := s.inputs.drpdo, pmadoneR := r.sync.rxpmaresetdone.s2 } } }) ∧
    (s.inputs.drprdy = true → ¬ expired →
      exec .rxiDrpReadWait s = .next { s with next := { s.next with rxi := { s.next.rxi with
        state := .drpModIssue, drpvalue := s.inputs.drpdo, pmadoneR := r.sync.rxpmaresetdone.s2 } } }) ∧
    goes .rxiDrpModIssue .drpModWait ∧
    goes .rxiDrpModWait (if s.inputs.drprdy then .waitPmarstFall else .drpModWait) ∧
    goes .rxiWaitPmarstFall
      (if r.pmadoneR = true ∧ r.sync.rxpmaresetdone.s2 = false then .drpRestoreIssue else .waitPmarstFall) ∧
    goes .rxiDrpRestoreIssue .drpRestoreWait ∧
    goes .rxiDrpRestoreWait (if s.inputs.drprdy then .waitGtpReset else .drpRestoreWait) ∧
    goes .rxiWaitGtpReset
      (if r.sync.rxresetdone.s2 then (if c.bufferEnable then .ready else .align) else .waitGtpReset) ∧
    goes .rxiAlign (if r.sync.rxdlysresetdone.s2 then .waitAlignDone else .align) ∧
    goes .rxiWaitAlignDone (if r.sync.rxsyncdone.s2 then .ready else .waitAlignDone) ∧
    goes .rxiReady (if s.inputs.rxRestart then .powerDown else .ready)

/-- R184, R188, R197, R240, R241: the outcomes of `TXI.CONFIG` and `RXI.CONFIG`; `T` is
`sys_clk_freq / 10^6` rounded up. The model's choices:
a success clears the error, and a failure removes an instance that existed
(notes/assumptions/11.md), whose register fields stay (notes/assumptions/21.md); a new instance finds the input and
`rst` levels of an earlier one, and a failure leaves them (notes/assumptions/23.md). -/
def Obligations.LinkConfigOutcome : Prop :=
  ∀ s : State,
    (let p := s.params.txi;
      ((p.sysClkFreq < 1 ∨ ∃ n, p.watchdogTicks = some n ∧ n < 1) →
        exec .txiConfig s = .next { s with
          inst := { s.inst with txi := none }, error := some ⟨.txi p, .linkBadClock⟩ }) ∧
      (∀ ticks : Nat, 1 ≤ p.sysClkFreq → (∀ n, p.watchdogTicks = some n → 1 ≤ n) →
        p.sysClkFreq ≤ ticks * 10 ^ 6 → ((ticks : ℤ) - 1) * 10 ^ 6 < p.sysClkFreq →
        let r : TxiRegs := ⟨.powerDown, ⟨⟨false, false⟩, ⟨false, false⟩⟩, ⟨false, false, false, false⟩, ticks, 0⟩
        exec .txiConfig s = .next { s with
          inst := { s.inst with txi := some ⟨p, ticks, p.watchdogTicks.map Int.toNat⟩ }
          regs := { s.regs with txi := r }
          next := { s.next with txi := r }
          error := none })) ∧
    (let p := s.params.rxi;
      ((p.sysClkFreq < 1 ∨ ∃ n, p.watchdogTicks = some n ∧ n < 1) →
        exec .rxiConfig s = .next { s with
          inst := { s.inst with rxi := none }, error := some ⟨.rxi p, .linkBadClock⟩ }) ∧
      (∀ ticks : Nat, 1 ≤ p.sysClkFreq → (∀ n, p.watchdogTicks = some n → 1 ≤ n) →
        p.sysClkFreq ≤ ticks * 10 ^ 6 → ((ticks : ℤ) - 1) * 10 ^ 6 < p.sysClkFreq →
        let r : RxiRegs := ⟨.powerDown, 0, false,
          ⟨⟨false, false⟩, ⟨false, false⟩, ⟨false, false⟩, ⟨false, false⟩, ⟨false, false⟩⟩,
          ⟨false, false, false, false, false, false, 0⟩, ticks, 0⟩
        exec .rxiConfig s = .next { s with
          inst := { s.inst with
            rxi := some ⟨p, ticks, p.watchdogTicks.map Int.toNat, p.bufferEnable, p.drpAddr,
              p.drpModMask⟩ }
          regs := { s.regs with rxi := r }
          next := { s.next with rxi := r }
          error := none }))

/-- R181: each synchronizer of an instance delays its input by two ticks, and shows 0 before; the input of
tick `t` is the level the state after that tick shows. -/
def Obligations.SynchronizerDelay : Prop :=
  ∀ (d n : Nat) (σ : Nat → State), TickRun d n σ → RstLow d n σ →
    let delayed (q : State → Level) (input : Inputs → Level) : Prop :=
      ∀ t, t ≤ n → q (σ t) = if 2 ≤ t then input (σ (t - 1)).inputs else false
    (∀ c, .link .tx .sync2 ∈ members (σ 0) d → (σ 0).inst.txi = some c →
      (σ 0).regs.txi.sync = ⟨⟨false, false⟩, ⟨false, false⟩⟩ →
      delayed (fun s => s.regs.txi.sync.plllock.s2) Inputs.txPlllock ∧
      delayed (fun s => s.regs.txi.sync.txresetdone.s2) Inputs.txresetdone) ∧
    (∀ c, .link .rx .sync2 ∈ members (σ 0) d → (σ 0).inst.rxi = some c →
      (σ 0).regs.rxi.sync =
        ⟨⟨false, false⟩, ⟨false, false⟩, ⟨false, false⟩, ⟨false, false⟩, ⟨false, false⟩⟩ →
      delayed (fun s => s.regs.rxi.sync.plllock.s2) Inputs.rxPlllock ∧
      delayed (fun s => s.regs.rxi.sync.rxresetdone.s2) Inputs.rxresetdone ∧
      delayed (fun s => s.regs.rxi.sync.rxdlysresetdone.s2) Inputs.rxdlysresetdone ∧
      delayed (fun s => s.regs.rxi.sync.rxsyncdone.s2) Inputs.rxsyncdone ∧
      delayed (fun s => s.regs.rxi.sync.rxpmaresetdone.s2) Inputs.rxpmaresetdone)

/-- R183, corner case: without a watchdog, `timer_done(t) = 1` iff `wait` was 1 in each of the `T` ticks before
`t`. -/
def Obligations.TimerDoneAfterFullWait : Prop :=
  ∀ (d n : Nat) (σ : Nat → State), TickRun d n σ → RstLow d n σ →
    (∀ c, .link .tx .wtmr ∈ members (σ 0) d → (σ 0).inst.txi = some c → c.watchdog = none →
      (σ 0).regs.txi.count = c.timerTicks →
      ∀ t, t ≤ n → (timerDone (σ t).regs.txi.count = true ↔
        c.timerTicks ≤ t ∧ ∀ u, t - c.timerTicks ≤ u → u < t → txiWait (σ u).regs.txi = true)) ∧
    (∀ c, .link .rx .wtmr ∈ members (σ 0) d → (σ 0).inst.rxi = some c → c.watchdog = none →
      (σ 0).regs.rxi.count = c.timerTicks →
      ∀ t, t ≤ n → (timerDone (σ t).regs.rxi.count = true ↔
        c.timerTicks ≤ t ∧ ∀ u, t - c.timerTicks ≤ u → u < t → rxiWait (σ u).regs.rxi = true))

/-- R195: the edges of the TX FSM, complete. -/
def Obligations.TxiEdgesComplete : Prop :=
  ∀ (s t : State) (d : Nat) (levels : List PortLevel) (rest : List Stim) (c : TxiConfig),
    s.script = .tick d levels :: rest → step s = .next t → rstLevel t d = false →
    .link .tx .fsm ∈ members s d → s.inst.txi = some c →
    let r := s.regs.txi
    (TxiExpires c r → t.regs.txi.state = .powerDown) ∧
    (¬ TxiExpires c r → t.regs.txi.state =
      match r.state with
      | .powerDown => if r.count = 0 then .waitPllReset else .powerDown
      | .waitPllReset => if r.sync.plllock.s2 then .waitInitDelay else .waitPllReset
      | .waitInitDelay => if r.count = 0 then .waitGtpReset else .waitInitDelay
      | .waitGtpReset => if r.sync.txresetdone.s2 then .ready else .waitGtpReset
      | .ready => if t.inputs.txRestart then .powerDown else .ready)

/-- R212: the edges of the RX FSM, complete. -/
def Obligations.RxiEdgesComplete : Prop :=
  ∀ (s t : State) (d : Nat) (levels : List PortLevel) (rest : List Stim) (c : RxiConfig),
    s.script = .tick d levels :: rest → step s = .next t → rstLevel t d = false →
    .link .rx .fsm ∈ members s d → s.inst.rxi = some c →
    let r := s.regs.rxi
    (RxiExpires c r → t.regs.rxi.state = .powerDown) ∧
    (¬ RxiExpires c r → t.regs.rxi.state =
      match r.state with
      | .powerDown => if r.count = 0 then .drpReadIssue else .powerDown
      | .drpReadIssue => .drpReadWait
      | .drpReadWait => if t.inputs.drprdy then .drpModIssue else .drpReadWait
      | .drpModIssue => .drpModWait
      | .drpModWait => if t.inputs.drprdy then .waitPmarstFall else .drpModWait
      | .waitPmarstFall =>
        if r.pmadoneR = true ∧ r.sync.rxpmaresetdone.s2 = false then .drpRestoreIssue else .waitPmarstFall
      | .drpRestoreIssue => .drpRestoreWait
      | .drpRestoreWait => if t.inputs.drprdy then .waitGtpReset else .drpRestoreWait
      | .waitGtpReset =>
        if r.sync.rxresetdone.s2 then (if c.bufferEnable then .ready else .align) else .waitGtpReset
      | .align => if r.sync.rxdlysresetdone.s2 then .waitAlignDone else .align
      | .waitAlignDone => if r.sync.rxsyncdone.s2 then .ready else .waitAlignDone
      | .ready => if t.inputs.rxRestart then .powerDown else .ready)

/-- R213, TX: the edge from WAIT-INIT-DELAY is taken only after `T` ticks in that state with `plllock_s = 1`,
and every READY is preceded, since the last POWER-DOWN, by `T` consecutive such ticks. -/
def Obligations.TxDwellLaw : Prop :=
  ∀ (d n : Nat) (σ : Nat → State) (c : TxiConfig),
    TickRun d n σ → linkSlots .tx ⊆ members (σ 0) d → (σ 0).inst.txi = some c →
    (σ 0).regs.txi.state = .powerDown →
    (∀ t, t < n → (σ t).regs.txi.state = .waitInitDelay → (σ (t + 1)).regs.txi.state = .waitGtpReset →
      c.timerTicks ≤ t ∧ ∀ u, t - c.timerTicks ≤ u → u < t →
        (σ u).regs.txi.sync.plllock.s2 = true ∧ (σ u).regs.txi.state = .waitInitDelay) ∧
    (∀ t, t ≤ n → (σ t).regs.txi.state = .ready →
      ∃ e, c.timerTicks ≤ e ∧ e < t ∧
        (∀ u, e - c.timerTicks ≤ u → u < e → (σ u).regs.txi.sync.plllock.s2 = true) ∧
        ∀ u, e - c.timerTicks ≤ u → u ≤ t → (σ u).regs.txi.state ≠ .powerDown)

/-- R213, RX: the edge from POWER-DOWN is taken only after `T` ticks with `plllock_s = 1`, and every READY is
preceded, since the last POWER-DOWN, by such a dwell. -/
def Obligations.RxDwellLaw : Prop :=
  ∀ (d n : Nat) (σ : Nat → State) (c : RxiConfig),
    TickRun d n σ → linkSlots .rx ⊆ members (σ 0) d → (σ 0).inst.rxi = some c →
    (σ 0).regs.rxi.state = .powerDown → (σ 0).regs.rxi.count = c.timerTicks →
    (∀ t, t < n → (σ t).regs.rxi.state = .powerDown → (σ (t + 1)).regs.rxi.state = .drpReadIssue →
      c.timerTicks ≤ t ∧ ∀ u, t - c.timerTicks ≤ u → u < t →
        (σ u).regs.rxi.sync.plllock.s2 = true) ∧
    (∀ t, t ≤ n → (σ t).regs.rxi.state = .ready →
      ∃ e, c.timerTicks ≤ e ∧ e < t ∧
        (∀ u, e - c.timerTicks ≤ u → u < e → (σ u).regs.rxi.sync.plllock.s2 = true) ∧
        (σ e).regs.rxi.state = .powerDown ∧
        ∀ u, e < u → u ≤ t → (σ u).regs.rxi.state ≠ .powerDown)

/-- R202: no operation but `RXI.DRP_READ_WAIT`, the domain reset of the FSM and its configuration writes
`drpvalue`. -/
def Obligations.DrpvalueWrittenOnlyByReadWait : Prop :=
  ∀ (i : Instr) (s t : State), exec i s = .next t →
    i ≠ .rxiDrpReadWait → i ≠ .rxiConfig → (∀ x, i ≠ .rst .rxi x) →
    t.next.rxi.drpvalue = s.next.rxi.drpvalue

/-- R66, R201, R203, R206: every DRP transaction is started by a pulse of `drpen` of exactly one tick, and its
write data is `drpvalue & DRP_MOD_MASK` or `drpvalue`. -/
def Obligations.DrpPulsesLastOneTick : Prop :=
  ∀ (d n : Nat) (σ : Nat → State) (c : RxiConfig),
    TickRun d n σ → linkSlots .rx ⊆ members (σ 0) d → (σ 0).inst.rxi = some c →
    ∀ t, t + 1 < n → (σ (t + 1)).regs.rxi.degl.drpen = true →
      (σ (t + 2)).regs.rxi.degl.drpen = false ∧
      ((σ (t + 1)).regs.rxi.degl.drpwe = true →
        (σ (t + 1)).regs.rxi.degl.drpdi = (σ t).regs.rxi.drpvalue ∨
        (σ (t + 1)).regs.rxi.degl.drpdi = (σ t).regs.rxi.drpvalue &&& c.drpModMask)

/-- R199: in every tick without reset, in every RXI state, `pmadone_r` takes the value of
`rxpmaresetdone_s`. -/
def Obligations.PmadoneCopiesSynchronizedInput : Prop :=
  ∀ (s t : State) (d : Nat) (levels : List PortLevel) (rest : List Stim) (c : RxiConfig),
    s.script = .tick d levels :: rest → step s = .next t → rstLevel t d = false →
    .link .rx .fsm ∈ members s d → s.inst.rxi = some c →
    t.regs.rxi.pmadoneR = s.regs.rxi.sync.rxpmaresetdone.s2

/-! ### The whole machine -/

/-- R7, R20, R72, R21: a tick operation changes nothing but the values that land at the tick boundary, and of
these only those of its own unit; so no table, configuration or visible register is written. -/
def Obligations.OperationsWriteOnlyTheirUnit : Prop :=
  ∀ (i : Instr) (s t : State), isConfiguration i = false → exec i s = .next t →
    t = { s with next := t.next } ∧
    (operationUnit s.focus i ≠ .nco → t.next.nco = s.next.nco) ∧
    (operationUnit s.focus i ≠ .matcher → t.next.matcher = s.next.matcher) ∧
    (operationUnit s.focus i ≠ .acq → t.next.acq = s.next.acq) ∧
    (operationUnit s.focus i ≠ .cordic → t.next.cordic = s.next.cordic) ∧
    (operationUnit s.focus i ≠ .seq → t.next.seq = s.next.seq) ∧
    (operationUnit s.focus i ≠ .txi → t.next.txi = s.next.txi) ∧
    (operationUnit s.focus i ≠ .rxi → t.next.rxi = s.next.rxi)

/-- R240, R241, R243, R248: a configuration operation always answers; either an instance exists and there is no
error, or no instance exists, the cause is one of the unit's own and nothing else has changed. That a failure
answers a next state is the model's deduction, and that it removes an instance that existed and that a success
clears the error are its choices (notes/assumptions/11.md), as are that the register fields of such an instance stay
(notes/assumptions/21.md) and that the input and `rst` levels do (notes/assumptions/23.md). -/
def Obligations.ConfigurationFailsClosed : Prop :=
  ∀ s : State,
    let fails (t : State) (inst : Instances) (call : ConfigCall) (causes : List ConfigCause) : Prop :=
      ∃ cause ∈ causes, t = { s with inst := inst, error := some ⟨call, cause⟩ }
    (∃ t, exec .ncoBuild s = .next t ∧ ((t.error = none ∧ t.inst.nco.isSome = true) ∨
      fails t { s.inst with nco := none } (.nco s.params.nco) [.ncoNoPeriod, .ncoBadParameter])) ∧
    (∃ t, exec .matchConfig s = .next t ∧ ((t.error = none ∧ t.inst.matcher.isSome = true) ∨
      fails t { s.inst with matcher := none } (.matcher s.params.matcher) [.corrBadParameter])) ∧
    (∃ t, exec .acqConfig s = .next t ∧ ((t.error = none ∧ t.inst.acq.isSome = true) ∨
      fails t { s.inst with acq := none } (.acq s.params.acq) [.corrBadParameter])) ∧
    (∃ t, exec .cordicConfig s = .next t ∧ ((t.error = none ∧ t.inst.cordic.isSome = true) ∨
      fails t { s.inst with cordic := none } (.cordic s.params.cordic) [.cordicBadParameter])) ∧
    (∃ t, exec .seqConfig s = .next t ∧ ((t.error = none ∧ t.inst.seq.isSome = true) ∨
      fails t { s.inst with seq := none } (.seq s.params.seq)
        [.seqBadWindow, .seqEmptyPacket, .seqSymbolRange, .seqWordWidth])) ∧
    (∃ t, exec .txiConfig s = .next t ∧ ((t.error = none ∧ t.inst.txi.isSome = true) ∨
      fails t { s.inst with txi := none } (.txi s.params.txi) [.linkBadClock])) ∧
    (∃ t, exec .rxiConfig s = .next t ∧ ((t.error = none ∧ t.inst.rxi.isSome = true) ∨
      fails t { s.inst with rxi := none } (.rxi s.params.rxi) [.linkBadClock]))

/-- R6, R20, R69, R253: a tick of one domain changes no configuration, no table, no error, and no register of a
unit outside the domain; and it reads none: whatever the registers outside are, the units of the domain go on in
the same way. -/
def Obligations.TickLeavesOtherDomainsAlone : Prop :=
  ∀ (s t : State) (d : Nat) (levels : List PortLevel) (rest : List Stim),
    s.script = .tick d levels :: rest → step s = .next t →
    t.inst = s.inst ∧ t.params = s.params ∧ t.error = s.error ∧ t.script = rest ∧
    (.nco ∉ members s d → t.regs.nco = s.regs.nco) ∧
    (.matcher ∉ members s d → t.regs.matcher = s.regs.matcher) ∧
    (.acq ∉ members s d → t.regs.acq = s.regs.acq) ∧
    (.cordic ∉ members s d → t.regs.cordic = s.regs.cordic) ∧
    (.seq ∉ members s d → t.regs.seq = s.regs.seq) ∧
    ((∀ p, .link .tx p ∉ members s d) → t.regs.txi = s.regs.txi) ∧
    ((∀ p, .link .rx p ∉ members s d) → t.regs.rxi = s.regs.rxi) ∧
    (DomainsOk s.domains → ∀ (q : Regs) (u : State), AgreeOn (members s d) s.regs q →
      step { s with regs := q } = .next u → AgreeOn (members s d) t.regs u.regs)

/-- R90: an input not listed in a tick keeps its last level, and a listed one takes the level listed last. The
same holds of the `rst` of the domain that ticks, which a tick of another domain leaves alone
(notes/assumptions/19.md). -/
def Obligations.InputLevelsHold : Prop :=
  (∀ (i : Inputs) (l : List PortLevel), (∀ e ∈ l, ∃ v, e = .rst v) → applyLevels i l = i) ∧
  (∀ (i : Inputs) (l : List PortLevel) (b : Level) (v : ℤ) (w : DrpData),
    let j := applyLevels i l
    applyLevels i (l ++ [.rst b]) = j ∧
    applyLevels i (l ++ [.matchInput b]) = { j with matchInput := b } ∧
    applyLevels i (l ++ [.acqReset b]) = { j with acqReset := b } ∧
    applyLevels i (l ++ [.cordicX v]) = { j with cordicX := v } ∧
    applyLevels i (l ++ [.cordicY v]) = { j with cordicY := v } ∧
    applyLevels i (l ++ [.seqReset b]) = { j with seqReset := b } ∧
    applyLevels i (l ++ [.txPlllock b]) = { j with txPlllock := b } ∧
    applyLevels i (l ++ [.txresetdone b]) = { j with txresetdone := b } ∧
    applyLevels i (l ++ [.txRestart b]) = { j with txRestart := b } ∧
    applyLevels i (l ++ [.rxPlllock b]) = { j with rxPlllock := b } ∧
    applyLevels i (l ++ [.rxresetdone b]) = { j with rxresetdone := b } ∧
    applyLevels i (l ++ [.rxdlysresetdone b]) = { j with rxdlysresetdone := b } ∧
    applyLevels i (l ++ [.rxsyncdone b]) = { j with rxsyncdone := b } ∧
    applyLevels i (l ++ [.rxpmaresetdone b]) = { j with rxpmaresetdone := b } ∧
    applyLevels i (l ++ [.rxRestart b]) = { j with rxRestart := b } ∧
    applyLevels i (l ++ [.drprdy b]) = { j with drprdy := b } ∧
    applyLevels i (l ++ [.drpdo w]) = { j with drpdo := w }) ∧
  (∀ (d : Domain) (l : List PortLevel), (∀ b, .rst b ∉ l) → domainLevels d l = d) ∧
  (∀ (d : Domain) (l : List PortLevel) (b : Level), domainLevels d (l ++ [.rst b]) = ⟨d.members, b⟩) ∧
  (∀ (d : Domain) (l : List PortLevel) (e : PortLevel), (∀ b, e ≠ .rst b) →
    domainLevels d (l ++ [e]) = domainLevels d l) ∧
  ∀ (s t : State) (n : Nat) (levels : List PortLevel) (rest : List Stim) (d : Domain),
    s.script = .tick n levels :: rest → s.domains[n]? = some d → step s = .next t →
    t.inputs = applyLevels s.inputs levels ∧
    t.domains[n]? = some (domainLevels d levels) ∧
    ∀ m, m ≠ n → t.domains[m]? = s.domains[m]?

/-- R107, R123, R127, R162, R167, R146, R186, R196: the output ports of the configured units. -/
def Obligations.OutputPortsFollowRegisters : Prop :=
  ∀ s : State,
    (∀ c, s.inst.nco = some c → s.ncoOut = some s.regs.nco.out) ∧
    (∀ c, s.inst.matcher = some c → (s.matchOut = some true ↔
      ∀ i, i < c.pattern.length → c.pattern[i]? = s.regs.matcher.hist[i * c.spacing]?)) ∧
    (∀ c, s.inst.acq = some c → s.acqOut = some
      ⟨decide (s.regs.acq.state = .sampling ∧ s.regs.acq.counter = c.sps - 1), s.regs.acq.state,
        s.regs.acq.eyeWidth⟩) ∧
    (∀ c, s.inst.cordic = some c → s.cordicOut = some ⟨s.regs.cordic.magnitude, s.regs.cordic.angle⟩) ∧
    (∀ c, s.inst.seq = some c → c.gateLat = .two → s.seqOut = some
      ⟨if s.regs.seq.doneD2 then 0 else s.regs.seq.outReg, s.regs.seq.done⟩) ∧
    (∀ c, s.inst.seq = some c → c.gateLat = .zero → s.seqOut = some
      ⟨if s.regs.seq.done then 0 else s.regs.seq.outReg, s.regs.seq.done⟩) ∧
    (∀ c, s.inst.txi = some c → s.txiOut = some ⟨s.regs.txi.degl, decide (s.regs.txi.state = .ready)⟩) ∧
    (∀ c, s.inst.rxi = some c → s.rxiOut = some
      ⟨s.regs.rxi.degl, c.drpAddr, decide (s.regs.rxi.state = .ready)⟩)

end
end

