-- ==== Sys2Proof/Laws/State.lean ====
section
/-! SUPPORT. One lemma per field per update of `State` (Machine/Ops.lean), true by unfolding: what each named
write leaves alone and what it sets, so that no proof unfolds a record update. -/

namespace Sys2Proof.Machine


/-! ### `State.writeNco` -/

section
variable (s : State) (v : NcoRegs)

@[simp] theorem writeNco_inst : (s.writeNco v).inst = s.inst := rfl
@[simp] theorem writeNco_regs : (s.writeNco v).regs = s.regs := rfl
@[simp] theorem writeNco_inputs : (s.writeNco v).inputs = s.inputs := rfl
@[simp] theorem writeNco_params : (s.writeNco v).params = s.params := rfl
@[simp] theorem writeNco_error : (s.writeNco v).error = s.error := rfl
@[simp] theorem writeNco_focus : (s.writeNco v).focus = s.focus := rfl
@[simp] theorem writeNco_domains : (s.writeNco v).domains = s.domains := rfl
@[simp] theorem writeNco_script : (s.writeNco v).script = s.script := rfl
@[simp] theorem writeNco_next_nco : (s.writeNco v).next.nco = v := rfl
@[simp] theorem writeNco_next_matcher : (s.writeNco v).next.matcher = s.next.matcher := rfl
@[simp] theorem writeNco_next_acq : (s.writeNco v).next.acq = s.next.acq := rfl
@[simp] theorem writeNco_next_cordic : (s.writeNco v).next.cordic = s.next.cordic := rfl
@[simp] theorem writeNco_next_seq : (s.writeNco v).next.seq = s.next.seq := rfl
@[simp] theorem writeNco_next_txi : (s.writeNco v).next.txi = s.next.txi := rfl
@[simp] theorem writeNco_next_rxi : (s.writeNco v).next.rxi = s.next.rxi := rfl

end

/-! ### `State.writeMatch` -/

section
variable (s : State) (v : MatchRegs)

@[simp] theorem writeMatch_inst : (s.writeMatch v).inst = s.inst := rfl
@[simp] theorem writeMatch_regs : (s.writeMatch v).regs = s.regs := rfl
@[simp] theorem writeMatch_inputs : (s.writeMatch v).inputs = s.inputs := rfl
@[simp] theorem writeMatch_params : (s.writeMatch v).params = s.params := rfl
@[simp] theorem writeMatch_error : (s.writeMatch v).error = s.error := rfl
@[simp] theorem writeMatch_focus : (s.writeMatch v).focus = s.focus := rfl
@[simp] theorem writeMatch_domains : (s.writeMatch v).domains = s.domains := rfl
@[simp] theorem writeMatch_script : (s.writeMatch v).script = s.script := rfl
@[simp] theorem writeMatch_next_nco : (s.writeMatch v).next.nco = s.next.nco := rfl
@[simp] theorem writeMatch_next_matcher : (s.writeMatch v).next.matcher = v := rfl
@[simp] theorem writeMatch_next_acq : (s.writeMatch v).next.acq = s.next.acq := rfl
@[simp] theorem writeMatch_next_cordic : (s.writeMatch v).next.cordic = s.next.cordic := rfl
@[simp] theorem writeMatch_next_seq : (s.writeMatch v).next.seq = s.next.seq := rfl
@[simp] theorem writeMatch_next_txi : (s.writeMatch v).next.txi = s.next.txi := rfl
@[simp] theorem writeMatch_next_rxi : (s.writeMatch v).next.rxi = s.next.rxi := rfl

end

/-! ### `State.writeAcq` -/

section
variable (s : State) (v : AcqRegs)

@[simp] theorem writeAcq_inst : (s.writeAcq v).inst = s.inst := rfl
@[simp] theorem writeAcq_regs : (s.writeAcq v).regs = s.regs := rfl
@[simp] theorem writeAcq_inputs : (s.writeAcq v).inputs = s.inputs := rfl
@[simp] theorem writeAcq_params : (s.writeAcq v).params = s.params := rfl
@[simp] theorem writeAcq_error : (s.writeAcq v).error = s.error := rfl
@[simp] theorem writeAcq_focus : (s.writeAcq v).focus = s.focus := rfl
@[simp] theorem writeAcq_domains : (s.writeAcq v).domains = s.domains := rfl
@[simp] theorem writeAcq_script : (s.writeAcq v).script = s.script := rfl
@[simp] theorem writeAcq_next_nco : (s.writeAcq v).next.nco = s.next.nco := rfl
@[simp] theorem writeAcq_next_matcher : (s.writeAcq v).next.matcher = s.next.matcher := rfl
@[simp] theorem writeAcq_next_acq : (s.writeAcq v).next.acq = v := rfl
@[simp] theorem writeAcq_next_cordic : (s.writeAcq v).next.cordic = s.next.cordic := rfl
@[simp] theorem writeAcq_next_seq : (s.writeAcq v).next.seq = s.next.seq := rfl
@[simp] theorem writeAcq_next_txi : (s.writeAcq v).next.txi = s.next.txi := rfl
@[simp] theorem writeAcq_next_rxi : (s.writeAcq v).next.rxi = s.next.rxi := rfl

end

/-! ### `State.writeCordic` -/

section
variable (s : State) (v : CordicRegs)

@[simp] theorem writeCordic_inst : (s.writeCordic v).inst = s.inst := rfl
@[simp] theorem writeCordic_regs : (s.writeCordic v).regs = s.regs := rfl
@[simp] theorem writeCordic_inputs : (s.writeCordic v).inputs = s.inputs := rfl
@[simp] theorem writeCordic_params : (s.writeCordic v).params = s.params := rfl
@[simp] theorem writeCordic_error : (s.writeCordic v).error = s.error := rfl
@[simp] theorem writeCordic_focus : (s.writeCordic v).focus = s.focus := rfl
@[simp] theorem writeCordic_domains : (s.writeCordic v).domains = s.domains := rfl
@[simp] theorem writeCordic_script : (s.writeCordic v).script = s.script := rfl
@[simp] theorem writeCordic_next_nco : (s.writeCordic v).next.nco = s.next.nco := rfl
@[simp] theorem writeCordic_next_matcher : (s.writeCordic v).next.matcher = s.next.matcher := rfl
@[simp] theorem writeCordic_next_acq : (s.writeCordic v).next.acq = s.next.acq := rfl
@[simp] theorem writeCordic_next_cordic : (s.writeCordic v).next.cordic = v := rfl
@[simp] theorem writeCordic_next_seq : (s.writeCordic v).next.seq = s.next.seq := rfl
@[simp] theorem writeCordic_next_txi : (s.writeCordic v).next.txi = s.next.txi := rfl
@[simp] theorem writeCordic_next_rxi : (s.writeCordic v).next.rxi = s.next.rxi := rfl

end

/-! ### `State.writeSeq` -/

section
variable (s : State) (v : SeqRegs)

@[simp] theorem writeSeq_inst : (s.writeSeq v).inst = s.inst := rfl
@[simp] theorem writeSeq_regs : (s.writeSeq v).regs = s.regs := rfl
@[simp] theorem writeSeq_inputs : (s.writeSeq v).inputs = s.inputs := rfl
@[simp] theorem writeSeq_params : (s.writeSeq v).params = s.params := rfl
@[simp] theorem writeSeq_error : (s.writeSeq v).error = s.error := rfl
@[simp] theorem writeSeq_focus : (s.writeSeq v).focus = s.focus := rfl
@[simp] theorem writeSeq_domains : (s.writeSeq v).domains = s.domains := rfl
@[simp] theorem writeSeq_script : (s.writeSeq v).script = s.script := rfl
@[simp] theorem writeSeq_next_nco : (s.writeSeq v).next.nco = s.next.nco := rfl
@[simp] theorem writeSeq_next_matcher : (s.writeSeq v).next.matcher = s.next.matcher := rfl
@[simp] theorem writeSeq_next_acq : (s.writeSeq v).next.acq = s.next.acq := rfl
@[simp] theorem writeSeq_next_cordic : (s.writeSeq v).next.cordic = s.next.cordic := rfl
@[simp] theorem writeSeq_next_seq : (s.writeSeq v).next.seq = v := rfl
@[simp] theorem writeSeq_next_txi : (s.writeSeq v).next.txi = s.next.txi := rfl
@[simp] theorem writeSeq_next_rxi : (s.writeSeq v).next.rxi = s.next.rxi := rfl

end

/-! ### `State.writeTxiState` -/

section
variable (s : State) (v : TxiState)

@[simp] theorem writeTxiState_inst : (s.writeTxiState v).inst = s.inst := rfl
@[simp] theorem writeTxiState_regs : (s.writeTxiState v).regs = s.regs := rfl
@[simp] theorem writeTxiState_inputs : (s.writeTxiState v).inputs = s.inputs := rfl
@[simp] theorem writeTxiState_params : (s.writeTxiState v).params = s.params := rfl
@[simp] theorem writeTxiState_error : (s.writeTxiState v).error = s.error := rfl
@[simp] theorem writeTxiState_focus : (s.writeTxiState v).focus = s.focus := rfl
@[simp] theorem writeTxiState_domains : (s.writeTxiState v).domains = s.domains := rfl
@[simp] theorem writeTxiState_script : (s.writeTxiState v).script = s.script := rfl
@[simp] theorem writeTxiState_next_nco : (s.writeTxiState v).next.nco = s.next.nco := rfl
@[simp] theorem writeTxiState_next_matcher : (s.writeTxiState v).next.matcher = s.next.matcher := rfl
@[simp] theorem writeTxiState_next_acq : (s.writeTxiState v).next.acq = s.next.acq := rfl
@[simp] theorem writeTxiState_next_cordic : (s.writeTxiState v).next.cordic = s.next.cordic := rfl
@[simp] theorem writeTxiState_next_seq : (s.writeTxiState v).next.seq = s.next.seq := rfl
@[simp] theorem writeTxiState_next_txi : (s.writeTxiState v).next.txi = { s.next.txi with state := v } := rfl
@[simp] theorem writeTxiState_next_rxi : (s.writeTxiState v).next.rxi = s.next.rxi := rfl

end

/-! ### `State.writeTxiSync` -/

section
variable (s : State) (v : TxiSync)

@[simp] theorem writeTxiSync_inst : (s.writeTxiSync v).inst = s.inst := rfl
@[simp] theorem writeTxiSync_regs : (s.writeTxiSync v).regs = s.regs := rfl
@[simp] theorem writeTxiSync_inputs : (s.writeTxiSync v).inputs = s.inputs := rfl
@[simp] theorem writeTxiSync_params : (s.writeTxiSync v).params = s.params := rfl
@[simp] theorem writeTxiSync_error : (s.writeTxiSync v).error = s.error := rfl
@[simp] theorem writeTxiSync_focus : (s.writeTxiSync v).focus = s.focus := rfl
@[simp] theorem writeTxiSync_domains : (s.writeTxiSync v).domains = s.domains := rfl
@[simp] theorem writeTxiSync_script : (s.writeTxiSync v).script = s.script := rfl
@[simp] theorem writeTxiSync_next_nco : (s.writeTxiSync v).next.nco = s.next.nco := rfl
@[simp] theorem writeTxiSync_next_matcher : (s.writeTxiSync v).next.matcher = s.next.matcher := rfl
@[simp] theorem writeTxiSync_next_acq : (s.writeTxiSync v).next.acq = s.next.acq := rfl
@[simp] theorem writeTxiSync_next_cordic : (s.writeTxiSync v).next.cordic = s.next.cordic := rfl
@[simp] theorem writeTxiSync_next_seq : (s.writeTxiSync v).next.seq = s.next.seq := rfl
@[simp] theorem writeTxiSync_next_txi : (s.writeTxiSync v).next.txi = { s.next.txi with sync := v } := rfl
@[simp] theorem writeTxiSync_next_rxi : (s.writeTxiSync v).next.rxi = s.next.rxi := rfl

end

/-! ### `State.writeTxiDegl` -/

section
variable (s : State) (v : TxiPorts)

@[simp] theorem writeTxiDegl_inst : (s.writeTxiDegl v).inst = s.inst := rfl
@[simp] theorem writeTxiDegl_regs : (s.writeTxiDegl v).regs = s.regs := rfl
@[simp] theorem writeTxiDegl_inputs : (s.writeTxiDegl v).inputs = s.inputs := rfl
@[simp] theorem writeTxiDegl_params : (s.writeTxiDegl v).params = s.params := rfl
@[simp] theorem writeTxiDegl_error : (s.writeTxiDegl v).error = s.error := rfl
@[simp] theorem writeTxiDegl_focus : (s.writeTxiDegl v).focus = s.focus := rfl
@[simp] theorem writeTxiDegl_domains : (s.writeTxiDegl v).domains = s.domains := rfl
@[simp] theorem writeTxiDegl_script : (s.writeTxiDegl v).script = s.script := rfl
@[simp] theorem writeTxiDegl_next_nco : (s.writeTxiDegl v).next.nco = s.next.nco := rfl
@[simp] theorem writeTxiDegl_next_matcher : (s.writeTxiDegl v).next.matcher = s.next.matcher := rfl
@[simp] theorem writeTxiDegl_next_acq : (s.writeTxiDegl v).next.acq = s.next.acq := rfl
@[simp] theorem writeTxiDegl_next_cordic : (s.writeTxiDegl v).next.cordic = s.next.cordic := rfl
@[simp] theorem writeTxiDegl_next_seq : (s.writeTxiDegl v).next.seq = s.next.seq := rfl
@[simp] theorem writeTxiDegl_next_txi : (s.writeTxiDegl v).next.txi = { s.next.txi with degl := v } := rfl
@[simp] theorem writeTxiDegl_next_rxi : (s.writeTxiDegl v).next.rxi = s.next.rxi := rfl

end

/-! ### `State.writeTxiCount` -/

section
variable (s : State) (v : Nat)

@[simp] theorem writeTxiCount_inst : (s.writeTxiCount v).inst = s.inst := rfl
@[simp] theorem writeTxiCount_regs : (s.writeTxiCount v).regs = s.regs := rfl
@[simp] theorem writeTxiCount_inputs : (s.writeTxiCount v).inputs = s.inputs := rfl
@[simp] theorem writeTxiCount_params : (s.writeTxiCount v).params = s.params := rfl
@[simp] theorem writeTxiCount_error : (s.writeTxiCount v).error = s.error := rfl
@[simp] theorem writeTxiCount_focus : (s.writeTxiCount v).focus = s.focus := rfl
@[simp] theorem writeTxiCount_domains : (s.writeTxiCount v).domains = s.domains := rfl
@[simp] theorem writeTxiCount_script : (s.writeTxiCount v).script = s.script := rfl
@[simp] theorem writeTxiCount_next_nco : (s.writeTxiCount v).next.nco = s.next.nco := rfl
@[simp] theorem writeTxiCount_next_matcher : (s.writeTxiCount v).next.matcher = s.next.matcher := rfl
@[simp] theorem writeTxiCount_next_acq : (s.writeTxiCount v).next.acq = s.next.acq := rfl
@[simp] theorem writeTxiCount_next_cordic : (s.writeTxiCount v).next.cordic = s.next.cordic := rfl
@[simp] theorem writeTxiCount_next_seq : (s.writeTxiCount v).next.seq = s.next.seq := rfl
@[simp] theorem writeTxiCount_next_txi : (s.writeTxiCount v).next.txi = { s.next.txi with count := v } := rfl
@[simp] theorem writeTxiCount_next_rxi : (s.writeTxiCount v).next.rxi = s.next.rxi := rfl

end

/-! ### `State.writeTxiWd` -/

section
variable (s : State) (v : Nat)

@[simp] theorem writeTxiWd_inst : (s.writeTxiWd v).inst = s.inst := rfl
@[simp] theorem writeTxiWd_regs : (s.writeTxiWd v).regs = s.regs := rfl
@[simp] theorem writeTxiWd_inputs : (s.writeTxiWd v).inputs = s.inputs := rfl
@[simp] theorem writeTxiWd_params : (s.writeTxiWd v).params = s.params := rfl
@[simp] theorem writeTxiWd_error : (s.writeTxiWd v).error = s.error := rfl
@[simp] theorem writeTxiWd_focus : (s.writeTxiWd v).focus = s.focus := rfl
@[simp] theorem writeTxiWd_domains : (s.writeTxiWd v).domains = s.domains := rfl
@[simp] theorem writeTxiWd_script : (s.writeTxiWd v).script = s.script := rfl
@[simp] theorem writeTxiWd_next_nco : (s.writeTxiWd v).next.nco = s.next.nco := rfl
@[simp] theorem writeTxiWd_next_matcher : (s.writeTxiWd v).next.matcher = s.next.matcher := rfl
@[simp] theorem writeTxiWd_next_acq : (s.writeTxiWd v).next.acq = s.next.acq := rfl
@[simp] theorem writeTxiWd_next_cordic : (s.writeTxiWd v).next.cordic = s.next.cordic := rfl
@[simp] theorem writeTxiWd_next_seq : (s.writeTxiWd v).next.seq = s.next.seq := rfl
@[simp] theorem writeTxiWd_next_txi : (s.writeTxiWd v).next.txi = { s.next.txi with wd := v } := rfl
@[simp] theorem writeTxiWd_next_rxi : (s.writeTxiWd v).next.rxi = s.next.rxi := rfl

end

/-! ### `State.writeRxiState` -/

section
variable (s : State) (v : RxiState)

@[simp] theorem writeRxiState_inst : (s.writeRxiState v).inst = s.inst := rfl
@[simp] theorem writeRxiState_regs : (s.writeRxiState v).regs = s.regs := rfl
@[simp] theorem writeRxiState_inputs : (s.writeRxiState v).inputs = s.inputs := rfl
@[simp] theorem writeRxiState_params : (s.writeRxiState v).params = s.params := rfl
@[simp] theorem writeRxiState_error : (s.writeRxiState v).error = s.error := rfl
@[simp] theorem writeRxiState_focus : (s.writeRxiState v).focus = s.focus := rfl
@[simp] theorem writeRxiState_domains : (s.writeRxiState v).domains = s.domains := rfl
@[simp] theorem writeRxiState_script : (s.writeRxiState v).script = s.script := rfl
@[simp] theorem writeRxiState_next_nco : (s.writeRxiState v).next.nco = s.next.nco := rfl
@[simp] theorem writeRxiState_next_matcher : (s.writeRxiState v).next.matcher = s.next.matcher := rfl
@[simp] theorem writeRxiState_next_acq : (s.writeRxiState v).next.acq = s.next.acq := rfl
@[simp] theorem writeRxiState_next_cordic : (s.writeRxiState v).next.cordic = s.next.cordic := rfl
@[simp] theorem writeRxiState_next_seq : (s.writeRxiState v).next.seq = s.next.seq := rfl
@[simp] theorem writeRxiState_next_txi : (s.writeRxiState v).next.txi = s.next.txi := rfl
@[simp] theorem writeRxiState_next_rxi : (s.writeRxiState v).next.rxi = { s.next.rxi with state := v } := rfl

end

/-! ### `State.writeDrpvalue` -/

section
variable (s : State) (v : DrpData)

@[simp] theorem writeDrpvalue_inst : (s.writeDrpvalue v).inst = s.inst := rfl
@[simp] theorem writeDrpvalue_regs : (s.writeDrpvalue v).regs = s.regs := rfl
@[simp] theorem writeDrpvalue_inputs : (s.writeDrpvalue v).inputs = s.inputs := rfl
@[simp] theorem writeDrpvalue_params : (s.writeDrpvalue v).params = s.params := rfl
@[simp] theorem writeDrpvalue_error : (s.writeDrpvalue v).error = s.error := rfl
@[simp] theorem writeDrpvalue_focus : (s.writeDrpvalue v).focus = s.focus := rfl
@[simp] theorem writeDrpvalue_domains : (s.writeDrpvalue v).domains = s.domains := rfl
@[simp] theorem writeDrpvalue_script : (s.writeDrpvalue v).script = s.script := rfl
@[simp] theorem writeDrpvalue_next_nco : (s.writeDrpvalue v).next.nco = s.next.nco := rfl
@[simp] theorem writeDrpvalue_next_matcher : (s.writeDrpvalue v).next.matcher = s.next.matcher := rfl
@[simp] theorem writeDrpvalue_next_acq : (s.writeDrpvalue v).next.acq = s.next.acq := rfl
@[simp] theorem writeDrpvalue_next_cordic : (s.writeDrpvalue v).next.cordic = s.next.cordic := rfl
@[simp] theorem writeDrpvalue_next_seq : (s.writeDrpvalue v).next.seq = s.next.seq := rfl
@[simp] theorem writeDrpvalue_next_txi : (s.writeDrpvalue v).next.txi = s.next.txi := rfl
@[simp] theorem writeDrpvalue_next_rxi :
    (s.writeDrpvalue v).next.rxi = { s.next.rxi with drpvalue := v } := rfl

end

/-! ### `State.writePmadone` -/

section
variable (s : State) (v : Level)

@[simp] theorem writePmadone_inst : (s.writePmadone v).inst = s.inst := rfl
@[simp] theorem writePmadone_regs : (s.writePmadone v).regs = s.regs := rfl
@[simp] theorem writePmadone_inputs : (s.writePmadone v).inputs = s.inputs := rfl
@[simp] theorem writePmadone_params : (s.writePmadone v).params = s.params := rfl
@[simp] theorem writePmadone_error : (s.writePmadone v).error = s.error := rfl
@[simp] theorem writePmadone_focus : (s.writePmadone v).focus = s.focus := rfl
@[simp] theorem writePmadone_domains : (s.writePmadone v).domains = s.domains := rfl
@[simp] theorem writePmadone_script : (s.writePmadone v).script = s.script := rfl
@[simp] theorem writePmadone_next_nco : (s.writePmadone v).next.nco = s.next.nco := rfl
@[simp] theorem writePmadone_next_matcher : (s.writePmadone v).next.matcher = s.next.matcher := rfl
@[simp] theorem writePmadone_next_acq : (s.writePmadone v).next.acq = s.next.acq := rfl
@[simp] theorem writePmadone_next_cordic : (s.writePmadone v).next.cordic = s.next.cordic := rfl
@[simp] theorem writePmadone_next_seq : (s.writePmadone v).next.seq = s.next.seq := rfl
@[simp] theorem writePmadone_next_txi : (s.writePmadone v).next.txi = s.next.txi := rfl
@[simp] theorem writePmadone_next_rxi : (s.writePmadone v).next.rxi = { s.next.rxi with pmadoneR := v } := rfl

end

/-! ### `State.writeRxiSync` -/

section
variable (s : State) (v : RxiSync)

@[simp] theorem writeRxiSync_inst : (s.writeRxiSync v).inst = s.inst := rfl
@[simp] theorem writeRxiSync_regs : (s.writeRxiSync v).regs = s.regs := rfl
@[simp] theorem writeRxiSync_inputs : (s.writeRxiSync v).inputs = s.inputs := rfl
@[simp] theorem writeRxiSync_params : (s.writeRxiSync v).params = s.params := rfl
@[simp] theorem writeRxiSync_error : (s.writeRxiSync v).error = s.error := rfl
@[simp] theorem writeRxiSync_focus : (s.writeRxiSync v).focus = s.focus := rfl
@[simp] theorem writeRxiSync_domains : (s.writeRxiSync v).domains = s.domains := rfl
@[simp] theorem writeRxiSync_script : (s.writeRxiSync v).script = s.script := rfl
@[simp] theorem writeRxiSync_next_nco : (s.writeRxiSync v).next.nco = s.next.nco := rfl
@[simp] theorem writeRxiSync_next_matcher : (s.writeRxiSync v).next.matcher = s.next.matcher := rfl
@[simp] theorem writeRxiSync_next_acq : (s.writeRxiSync v).next.acq = s.next.acq := rfl
@[simp] theorem writeRxiSync_next_cordic : (s.writeRxiSync v).next.cordic = s.next.cordic := rfl
@[simp] theorem writeRxiSync_next_seq : (s.writeRxiSync v).next.seq = s.next.seq := rfl
@[simp] theorem writeRxiSync_next_txi : (s.writeRxiSync v).next.txi = s.next.txi := rfl
@[simp] theorem writeRxiSync_next_rxi : (s.writeRxiSync v).next.rxi = { s.next.rxi with sync := v } := rfl

end

/-! ### `State.writeRxiDegl` -/

section
variable (s : State) (v : RxiPorts)

@[simp] theorem writeRxiDegl_inst : (s.writeRxiDegl v).inst = s.inst := rfl
@[simp] theorem writeRxiDegl_regs : (s.writeRxiDegl v).regs = s.regs := rfl
@[simp] theorem writeRxiDegl_inputs : (s.writeRxiDegl v).inputs = s.inputs := rfl
@[simp] theorem writeRxiDegl_params : (s.writeRxiDegl v).params = s.params := rfl
@[simp] theorem writeRxiDegl_error : (s.writeRxiDegl v).error = s.error := rfl
@[simp] theorem writeRxiDegl_focus : (s.writeRxiDegl v).focus = s.focus := rfl
@[simp] theorem writeRxiDegl_domains : (s.writeRxiDegl v).domains = s.domains := rfl
@[simp] theorem writeRxiDegl_script : (s.writeRxiDegl v).script = s.script := rfl
@[simp] theorem writeRxiDegl_next_nco : (s.writeRxiDegl v).next.nco = s.next.nco := rfl
@[simp] theorem writeRxiDegl_next_matcher : (s.writeRxiDegl v).next.matcher = s.next.matcher := rfl
@[simp] theorem writeRxiDegl_next_acq : (s.writeRxiDegl v).next.acq = s.next.acq := rfl
@[simp] theorem writeRxiDegl_next_cordic : (s.writeRxiDegl v).next.cordic = s.next.cordic := rfl
@[simp] theorem writeRxiDegl_next_seq : (s.writeRxiDegl v).next.seq = s.next.seq := rfl
@[simp] theorem writeRxiDegl_next_txi : (s.writeRxiDegl v).next.txi = s.next.txi := rfl
@[simp] theorem writeRxiDegl_next_rxi : (s.writeRxiDegl v).next.rxi = { s.next.rxi with degl := v } := rfl

end

/-! ### `State.writeRxiCount` -/

section
variable (s : State) (v : Nat)

@[simp] theorem writeRxiCount_inst : (s.writeRxiCount v).inst = s.inst := rfl
@[simp] theorem writeRxiCount_regs : (s.writeRxiCount v).regs = s.regs := rfl
@[simp] theorem writeRxiCount_inputs : (s.writeRxiCount v).inputs = s.inputs := rfl
@[simp] theorem writeRxiCount_params : (s.writeRxiCount v).params = s.params := rfl
@[simp] theorem writeRxiCount_error : (s.writeRxiCount v).error = s.error := rfl
@[simp] theorem writeRxiCount_focus : (s.writeRxiCount v).focus = s.focus := rfl
@[simp] theorem writeRxiCount_domains : (s.writeRxiCount v).domains = s.domains := rfl
@[simp] theorem writeRxiCount_script : (s.writeRxiCount v).script = s.script := rfl
@[simp] theorem writeRxiCount_next_nco : (s.writeRxiCount v).next.nco = s.next.nco := rfl
@[simp] theorem writeRxiCount_next_matcher : (s.writeRxiCount v).next.matcher = s.next.matcher := rfl
@[simp] theorem writeRxiCount_next_acq : (s.writeRxiCount v).next.acq = s.next.acq := rfl
@[simp] theorem writeRxiCount_next_cordic : (s.writeRxiCount v).next.cordic = s.next.cordic := rfl
@[simp] theorem writeRxiCount_next_seq : (s.writeRxiCount v).next.seq = s.next.seq := rfl
@[simp] theorem writeRxiCount_next_txi : (s.writeRxiCount v).next.txi = s.next.txi := rfl
@[simp] theorem writeRxiCount_next_rxi : (s.writeRxiCount v).next.rxi = { s.next.rxi with count := v } := rfl

end

/-! ### `State.writeRxiWd` -/

section
variable (s : State) (v : Nat)

@[simp] theorem writeRxiWd_inst : (s.writeRxiWd v).inst = s.inst := rfl
@[simp] theorem writeRxiWd_regs : (s.writeRxiWd v).regs = s.regs := rfl
@[simp] theorem writeRxiWd_inputs : (s.writeRxiWd v).inputs = s.inputs := rfl
@[simp] theorem writeRxiWd_params : (s.writeRxiWd v).params = s.params := rfl
@[simp] theorem writeRxiWd_error : (s.writeRxiWd v).error = s.error := rfl
@[simp] theorem writeRxiWd_focus : (s.writeRxiWd v).focus = s.focus := rfl
@[simp] theorem writeRxiWd_domains : (s.writeRxiWd v).domains = s.domains := rfl
@[simp] theorem writeRxiWd_script : (s.writeRxiWd v).script = s.script := rfl
@[simp] theorem writeRxiWd_next_nco : (s.writeRxiWd v).next.nco = s.next.nco := rfl
@[simp] theorem writeRxiWd_next_matcher : (s.writeRxiWd v).next.matcher = s.next.matcher := rfl
@[simp] theorem writeRxiWd_next_acq : (s.writeRxiWd v).next.acq = s.next.acq := rfl
@[simp] theorem writeRxiWd_next_cordic : (s.writeRxiWd v).next.cordic = s.next.cordic := rfl
@[simp] theorem writeRxiWd_next_seq : (s.writeRxiWd v).next.seq = s.next.seq := rfl
@[simp] theorem writeRxiWd_next_txi : (s.writeRxiWd v).next.txi = s.next.txi := rfl
@[simp] theorem writeRxiWd_next_rxi : (s.writeRxiWd v).next.rxi = { s.next.rxi with wd := v } := rfl

end

/-! ### The two phases of a tick and the focus -/

section
variable (s : State) (v : LinkVariant)

@[simp] theorem latch_inst : s.latch.inst = s.inst := rfl
@[simp] theorem boundary_inst : s.boundary.inst = s.inst := rfl
@[simp] theorem focusOn_inst : (s.focusOn v).inst = s.inst := rfl
@[simp] theorem latch_regs : s.latch.regs = s.regs := rfl
@[simp] theorem boundary_regs : s.boundary.regs = s.next := rfl
@[simp] theorem focusOn_regs : (s.focusOn v).regs = s.regs := rfl
@[simp] theorem latch_inputs : s.latch.inputs = s.inputs := rfl
@[simp] theorem boundary_inputs : s.boundary.inputs = s.inputs := rfl
@[simp] theorem focusOn_inputs : (s.focusOn v).inputs = s.inputs := rfl
@[simp] theorem latch_params : s.latch.params = s.params := rfl
@[simp] theorem boundary_params : s.boundary.params = s.params := rfl
@[simp] theorem focusOn_params : (s.focusOn v).params = s.params := rfl
@[simp] theorem latch_error : s.latch.error = s.error := rfl
@[simp] theorem boundary_error : s.boundary.error = s.error := rfl
@[simp] theorem focusOn_error : (s.focusOn v).error = s.error := rfl
@[simp] theorem latch_focus : s.latch.focus = s.focus := rfl
@[simp] theorem boundary_focus : s.boundary.focus = s.focus := rfl
@[simp] theorem focusOn_focus : (s.focusOn v).focus = v := rfl
@[simp] theorem latch_domains : s.latch.domains = s.domains := rfl
@[simp] theorem boundary_domains : s.boundary.domains = s.domains := rfl
@[simp] theorem focusOn_domains : (s.focusOn v).domains = s.domains := rfl
@[simp] theorem latch_script : s.latch.script = s.script := rfl
@[simp] theorem boundary_script : s.boundary.script = s.script := rfl
@[simp] theorem focusOn_script : (s.focusOn v).script = s.script := rfl
@[simp] theorem latch_next : s.latch.next = s.regs := rfl
@[simp] theorem boundary_next : s.boundary.next = s.next := rfl
@[simp] theorem focusOn_next : (s.focusOn v).next = s.next := rfl

end

/-! ### `State.installNco` -/

section
variable (s : State) (c : NcoConfig)

@[simp] theorem installNco_inputs : (s.installNco c).inputs = s.inputs := rfl
@[simp] theorem installNco_params : (s.installNco c).params = s.params := rfl
@[simp] theorem installNco_focus : (s.installNco c).focus = s.focus := rfl
@[simp] theorem installNco_domains : (s.installNco c).domains = s.domains := rfl
@[simp] theorem installNco_script : (s.installNco c).script = s.script := rfl
@[simp] theorem installNco_error : (s.installNco c).error = none := rfl
@[simp] theorem installNco_inst : (s.installNco c).inst = { s.inst with nco := some c } := rfl
@[simp] theorem installNco_regs : (s.installNco c).regs = { s.regs with nco := ncoResetRegs } := rfl
@[simp] theorem installNco_next : (s.installNco c).next = { s.next with nco := ncoResetRegs } := rfl

end

/-! ### `State.installMatch` -/

section
variable (s : State) (c : MatchConfig)

@[simp] theorem installMatch_inputs : (s.installMatch c).inputs = s.inputs := rfl
@[simp] theorem installMatch_params : (s.installMatch c).params = s.params := rfl
@[simp] theorem installMatch_focus : (s.installMatch c).focus = s.focus := rfl
@[simp] theorem installMatch_domains : (s.installMatch c).domains = s.domains := rfl
@[simp] theorem installMatch_script : (s.installMatch c).script = s.script := rfl
@[simp] theorem installMatch_error : (s.installMatch c).error = none := rfl
@[simp] theorem installMatch_inst : (s.installMatch c).inst = { s.inst with matcher := some c } := rfl
@[simp] theorem installMatch_regs :
    (s.installMatch c).regs = { s.regs with matcher := matchResetRegs c } := rfl
@[simp] theorem installMatch_next :
    (s.installMatch c).next = { s.next with matcher := matchResetRegs c } := rfl

end

/-! ### `State.installAcq` -/

section
variable (s : State) (c : AcqConfig)

@[simp] theorem installAcq_inputs : (s.installAcq c).inputs = s.inputs := rfl
@[simp] theorem installAcq_params : (s.installAcq c).params = s.params := rfl
@[simp] theorem installAcq_focus : (s.installAcq c).focus = s.focus := rfl
@[simp] theorem installAcq_domains : (s.installAcq c).domains = s.domains := rfl
@[simp] theorem installAcq_script : (s.installAcq c).script = s.script := rfl
@[simp] theorem installAcq_error : (s.installAcq c).error = none := rfl
@[simp] theorem installAcq_inst : (s.installAcq c).inst = { s.inst with acq := some c } := rfl
@[simp] theorem installAcq_regs : (s.installAcq c).regs = { s.regs with acq := acqResetRegs } := rfl
@[simp] theorem installAcq_next : (s.installAcq c).next = { s.next with acq := acqResetRegs } := rfl

end

/-! ### `State.installCordic` -/

section
variable (s : State) (c : CordicConfig)

@[simp] theorem installCordic_inputs : (s.installCordic c).inputs = s.inputs := rfl
@[simp] theorem installCordic_params : (s.installCordic c).params = s.params := rfl
@[simp] theorem installCordic_focus : (s.installCordic c).focus = s.focus := rfl
@[simp] theorem installCordic_domains : (s.installCordic c).domains = s.domains := rfl
@[simp] theorem installCordic_script : (s.installCordic c).script = s.script := rfl
@[simp] theorem installCordic_error : (s.installCordic c).error = none := rfl
@[simp] theorem installCordic_inst : (s.installCordic c).inst = { s.inst with cordic := some c } := rfl
@[simp] theorem installCordic_regs :
    (s.installCordic c).regs = { s.regs with cordic := cordicResetRegs c } := rfl
@[simp] theorem installCordic_next :
    (s.installCordic c).next = { s.next with cordic := cordicResetRegs c } := rfl

end

/-! ### `State.installSeq` -/

section
variable (s : State) (c : SeqConfig)

@[simp] theorem installSeq_inputs : (s.installSeq c).inputs = s.inputs := rfl
@[simp] theorem installSeq_params : (s.installSeq c).params = s.params := rfl
@[simp] theorem installSeq_focus : (s.installSeq c).focus = s.focus := rfl
@[simp] theorem installSeq_domains : (s.installSeq c).domains = s.domains := rfl
@[simp] theorem installSeq_script : (s.installSeq c).script = s.script := rfl
@[simp] theorem installSeq_error : (s.installSeq c).error = none := rfl
@[simp] theorem installSeq_inst : (s.installSeq c).inst = { s.inst with seq := some c } := rfl
@[simp] theorem installSeq_regs : (s.installSeq c).regs = { s.regs with seq := seqResetRegs } := rfl
@[simp] theorem installSeq_next : (s.installSeq c).next = { s.next with seq := seqResetRegs } := rfl

end

/-! ### `State.installTxi` -/

section
variable (s : State) (c : TxiConfig)

@[simp] theorem installTxi_inputs : (s.installTxi c).inputs = s.inputs := rfl
@[simp] theorem installTxi_params : (s.installTxi c).params = s.params := rfl
@[simp] theorem installTxi_focus : (s.installTxi c).focus = s.focus := rfl
@[simp] theorem installTxi_domains : (s.installTxi c).domains = s.domains := rfl
@[simp] theorem installTxi_script : (s.installTxi c).script = s.script := rfl
@[simp] theorem installTxi_error : (s.installTxi c).error = none := rfl
@[simp] theorem installTxi_inst : (s.installTxi c).inst = { s.inst with txi := some c } := rfl
@[simp] theorem installTxi_regs : (s.installTxi c).regs = { s.regs with txi := txiResetRegs c } := rfl
@[simp] theorem installTxi_next : (s.installTxi c).next = { s.next with txi := txiResetRegs c } := rfl

end

/-! ### `State.installRxi` -/

section
variable (s : State) (c : RxiConfig)

@[simp] theorem installRxi_inputs : (s.installRxi c).inputs = s.inputs := rfl
@[simp] theorem installRxi_params : (s.installRxi c).params = s.params := rfl
@[simp] theorem installRxi_focus : (s.installRxi c).focus = s.focus := rfl
@[simp] theorem installRxi_domains : (s.installRxi c).domains = s.domains := rfl
@[simp] theorem installRxi_script : (s.installRxi c).script = s.script := rfl
@[simp] theorem installRxi_error : (s.installRxi c).error = none := rfl
@[simp] theorem installRxi_inst : (s.installRxi c).inst = { s.inst with rxi := some c } := rfl
@[simp] theorem installRxi_regs : (s.installRxi c).regs = { s.regs with rxi := rxiResetRegs c } := rfl
@[simp] theorem installRxi_next : (s.installRxi c).next = { s.next with rxi := rxiResetRegs c } := rfl

end

/-! ### Destruction and the exception -/

section
variable (s : State) (u : ConfigUnit) (call : ConfigCall) (cause : ConfigCause)

@[simp] theorem destroy_inst : (s.destroy u).inst = Instances.without s.inst u := rfl
@[simp] theorem raiseConfigurationError_inst :
    (s.raiseConfigurationError call cause).inst = Instances.without s.inst (ConfigCall.unit call) := rfl
@[simp] theorem destroy_regs : (s.destroy u).regs = s.regs := rfl
@[simp] theorem raiseConfigurationError_regs : (s.raiseConfigurationError call cause).regs = s.regs := rfl
@[simp] theorem destroy_inputs : (s.destroy u).inputs = s.inputs := rfl
@[simp] theorem raiseConfigurationError_inputs :
    (s.raiseConfigurationError call cause).inputs = s.inputs := rfl
@[simp] theorem destroy_params : (s.destroy u).params = s.params := rfl
@[simp] theorem raiseConfigurationError_params :
    (s.raiseConfigurationError call cause).params = s.params := rfl
@[simp] theorem destroy_error : (s.destroy u).error = s.error := rfl
@[simp] theorem raiseConfigurationError_error :
    (s.raiseConfigurationError call cause).error = some ⟨call, cause⟩ := rfl
@[simp] theorem destroy_focus : (s.destroy u).focus = s.focus := rfl
@[simp] theorem raiseConfigurationError_focus : (s.raiseConfigurationError call cause).focus = s.focus := rfl
@[simp] theorem destroy_domains : (s.destroy u).domains = s.domains := rfl
@[simp] theorem raiseConfigurationError_domains :
    (s.raiseConfigurationError call cause).domains = s.domains := rfl
@[simp] theorem destroy_script : (s.destroy u).script = s.script := rfl
@[simp] theorem raiseConfigurationError_script :
    (s.raiseConfigurationError call cause).script = s.script := rfl
@[simp] theorem destroy_next : (s.destroy u).next = s.next := rfl
@[simp] theorem raiseConfigurationError_next : (s.raiseConfigurationError call cause).next = s.next := rfl

end

end Sys2Proof.Machine
end

