-- ==== Sys2Proof/Laws/Ops.lean ====
section
/-! SUPPORT. For each shared operation of Machine/Ops.lean and of the unit files, one lemma that says once
everything it can answer, and for each configuration function, what it means that it yields an instance. -/

namespace Sys2Proof.Machine

/-! ### The constants of R140 -/

/-- The value is one that some number of bits decides. -/
theorem decidedValue_decided (at? : Nat → Option ℤ) {g : Nat} (hg : 1 ≤ g)
    (h : ∃ g, (at? (g + 1)).isSome = true) : ∃ g', 1 ≤ g' ∧ at? g' = some (decidedValue (at? g) at? h) := by
  unfold decidedValue
  split
  · exact ⟨g, hg, ‹_›⟩
  · exact ⟨Nat.find h + 1, by omega, by simp⟩

/-! ### Chaining -/

@[simp] theorem andThen_next (s : State) (f : State → Result) : andThen (.next s) f = f s := rfl

theorem andThen_eq_next_iff {r : Result} {f : State → Result} {t : State} :
    andThen r f = .next t ↔ ∃ s, r = .next s ∧ f s = .next t := by
  cases r <;> simp [andThen]

theorem andThen_assoc (r : Result) (f g : State → Result) :
    andThen (andThen r f) g = andThen r fun s => andThen (f s) g := by
  cases r <;> rfl

/-! ### Reads -/

theorem memRead_eq_some_iff {table : List Nat} {a w : Nat} :
    memRead table a = some w ↔ ∃ h : a < table.length, table[a] = w := by
  simp [memRead, List.getElem?_eq_some_iff]

theorem withWord_eq_next_iff {space : TableSpace} {table : List Nat} {a : Nat} {f : Nat → Result}
    {t : State} :
    withWord space table a f = .next t ↔ ∃ w, table[a]? = some w ∧ f w = .next t := by
  simp only [withWord, memRead]
  cases table[a]? <;> simp

theorem withConfig_eq_next_iff {α : Type} {u : UnitCode} {c : Option α} {f : α → Result} {t : State} :
    withConfig u c f = .next t ↔ ∃ a, c = some a ∧ f a = .next t := by
  cases c <;> simp [withConfig]

@[simp] theorem withConfig_some {α : Type} (u : UnitCode) (a : α) (f : α → Result) :
    withConfig u (some a) f = f a := rfl

theorem withMatch_eq_next_iff {s t : State} {f : AcqConfig → Level → Result} :
    withMatch s f = .next t ↔
      ∃ a m, s.inst.acq = some a ∧ s.inst.matcher = some m ∧
        f a (matchFlag m s.regs.matcher) = .next t := by
  simp only [withMatch, withConfig_eq_next_iff]
  constructor
  · rintro ⟨a, ha, m, hm, h⟩; exact ⟨a, m, ha, hm, h⟩
  · rintro ⟨a, m, ha, hm, h⟩; exact ⟨a, ha, m, hm, h⟩

theorem withLink_eq_next_iff {u : UnitCode} {s t : State} {tx : TxiConfig → Result}
    {rx : RxiConfig → Result} :
    withLink u s tx rx = .next t ↔
      (s.focus = .tx ∧ ∃ c, s.inst.txi = some c ∧ tx c = .next t) ∨
      (s.focus = .rx ∧ ∃ c, s.inst.rxi = some c ∧ rx c = .next t) := by
  cases h : s.focus <;> simp [withLink, h, withConfig_eq_next_iff]

/-! ### Writes of the link-training FSMs and of the sequencer -/

theorem txiGoto_eq_next_iff {s t : State} {c : TxiConfig} {target : TxiState} :
    txiGoto s c target = .next t ↔
      t = s.writeTxiState (if txiExpires c s.regs.txi then .powerDown else target) := by
  rw [eq_comm (a := t)]; simp [txiGoto]

theorem rxiGoto_eq_next_iff {s t : State} {c : RxiConfig} {target : RxiState} :
    rxiGoto s c target = .next t ↔
      t = (s.writeRxiState (if rxiExpires c s.regs.rxi then .powerDown else target)).writePmadone
        s.regs.rxi.sync.rxpmaresetdone.s2 := by
  rw [eq_comm (a := t)]; simp [rxiGoto]

theorem seqPipeline_eq_next_iff {c : SeqConfig} {s t : State} {i j : Nat} {d : Bool} :
    seqPipeline c s i j d = .next t ↔
      ∃ sym w, c.packet[s.regs.seq.symbolIndex]? = some sym ∧
        c.table[seqTableAddress c s.regs.seq]? = some w ∧
        t = s.writeSeq
          { symbolIndex := i, sampleIndex := j, lastSampleIndex := s.regs.seq.sampleIndex, symReg := sym
            outReg := w, done := d, doneD1 := s.regs.seq.done, doneD2 := s.regs.seq.doneD1 } := by
  simp only [seqPipeline, withWord_eq_next_iff, Host.Outcome.next.injEq]
  constructor
  · rintro ⟨sym, h, w, h', rfl⟩; exact ⟨sym, w, h, h', rfl⟩
  · rintro ⟨sym, w, h, h', rfl⟩; exact ⟨sym, h, w, h', rfl⟩

/-- The watchdog of the TXI: absent, cleared in READY, firing, or counting. -/
theorem txiWatchdog_cases (s : State) (c : TxiConfig) :
    (c.watchdog = none ∧ txiWatchdog s c = s) ∨
    (∃ n, c.watchdog = some n ∧
      ((s.regs.txi.state = .ready ∧ txiWatchdog s c = s.writeTxiWd 0) ∨
       (s.regs.txi.state ≠ .ready ∧ s.regs.txi.wd = n - 1 ∧
        txiWatchdog s c = ((s.writeTxiWd 0).writeTxiState .powerDown).writeTxiCount c.timerTicks) ∨
       (s.regs.txi.state ≠ .ready ∧ s.regs.txi.wd ≠ n - 1 ∧
        txiWatchdog s c = s.writeTxiWd (s.regs.txi.wd + 1)))) := by
  cases h : c.watchdog with
  | none => exact .inl ⟨rfl, by simp [txiWatchdog, h]⟩
  | some n =>
    refine .inr ⟨n, rfl, ?_⟩
    by_cases h1 : s.regs.txi.state = .ready <;> by_cases h2 : s.regs.txi.wd = n - 1 <;>
      simp [txiWatchdog, txiExpires, watchdogExpires, txiDone, h, h1, h2]

/-- The watchdog of the RXI: absent, cleared in READY, firing, or counting. -/
theorem rxiWatchdog_cases (s : State) (c : RxiConfig) :
    (c.watchdog = none ∧ rxiWatchdog s c = s) ∨
    (∃ n, c.watchdog = some n ∧
      ((s.regs.rxi.state = .ready ∧ rxiWatchdog s c = s.writeRxiWd 0) ∨
       (s.regs.rxi.state ≠ .ready ∧ s.regs.rxi.wd = n - 1 ∧
        rxiWatchdog s c = ((s.writeRxiWd 0).writeRxiState .powerDown).writeRxiCount c.timerTicks) ∨
       (s.regs.rxi.state ≠ .ready ∧ s.regs.rxi.wd ≠ n - 1 ∧
        rxiWatchdog s c = s.writeRxiWd (s.regs.rxi.wd + 1)))) := by
  cases h : c.watchdog with
  | none => exact .inl ⟨rfl, by simp [rxiWatchdog, h]⟩
  | some n =>
    refine .inr ⟨n, rfl, ?_⟩
    by_cases h1 : s.regs.rxi.state = .ready <;> by_cases h2 : s.regs.rxi.wd = n - 1 <;>
      simp [rxiWatchdog, rxiExpires, watchdogExpires, rxiDone, h, h1, h2]

/-! ### Configuration -/

/-- A configuration operation always answers a next state: the instance, or the exception. -/
theorem configureWith_eq_next_iff {α : Type} {s t : State} {call : ConfigCall}
    {outcome : Except ConfigCause α} {install : State → α → State} :
    configureWith s call outcome install = .next t ↔
      (∃ c, outcome = .ok c ∧ t = install s c) ∨
      (∃ cause, outcome = .error cause ∧ t = s.raiseConfigurationError call cause) := by
  cases outcome <;> simp [configureWith, eq_comm]

theorem buildNco_eq_ok_iff {p : NcoParams} {c : NcoConfig} :
    buildNco p = .ok c ↔
      1 ≤ p.width ∧ 0 < p.sampleRate.num ∧ 0 < p.maxError.num ∧ 0 ≤ p.frequency.num ∧
      ∃ n, ncoSearch p p.width.toNat p.maxSamples.toNat (p.maxSamples.toNat / p.width.toNat + 1)
          p.width.toNat = some n ∧ ncoPhaseAdmitted p n = true ∧
        c = ⟨p, p.width.toNat, n, ncoCycles p n, ncoTable p p.width.toNat n (ncoCycles p n)⟩ := by
  unfold buildNco
  split
  · rename_i h
    constructor
    · intro h'; cases h'
    · rintro ⟨h1, h2, h3, h4, -⟩; omega
  · rename_i h
    simp only [not_or, not_lt, not_le] at h
    cases hs : ncoSearch p p.width.toNat p.maxSamples.toNat
        (p.maxSamples.toNat / p.width.toNat + 1) p.width.toNat with
    | none => simp [hs]
    | some n =>
      cases ha : ncoPhaseAdmitted p n with
      | false =>
        simp only [hs, ha, Option.some.injEq]
        constructor
        · intro h'; cases h'
        · rintro ⟨-, -, -, -, m, rfl, hm, -⟩; rw [ha] at hm; cases hm
      | true =>
        simp only [hs, ha, if_true, Except.ok.injEq, Option.some.injEq]
        constructor
        · rintro rfl; exact ⟨h.1, h.2.1, h.2.2.1, h.2.2.2, n, rfl, ha, rfl⟩
        · rintro ⟨-, -, -, -, m, rfl, -, rfl⟩; rfl

theorem buildMatch_eq_ok_iff {p : MatchParams} {c : MatchConfig} :
    buildMatch p = .ok c ↔
      1 ≤ p.pattern.length ∧ 0 ≤ p.interval ∧ c = ⟨p, p.pattern, p.interval.toNat + 1⟩ := by
  unfold buildMatch
  split
  · constructor
    · intro h; cases h
    · rintro ⟨h1, h2, -⟩; omega
  · rename_i h
    rw [not_or, not_lt, not_lt] at h
    simp [h.1, h.2, eq_comm]

theorem buildAcq_eq_ok_iff {interval : ℤ} {p : AcqParams} {c : AcqConfig} :
    buildAcq interval p = .ok c ↔
      1 ≤ acqSps interval p ∧ 1 ≤ acqCntBits interval p ∧
      acqSps interval p - 1 < 2 ^ (acqCntBits interval p).toNat ∧
      c = ⟨p, (acqSps interval p).toNat, (acqCntBits interval p).toNat⟩ := by
  unfold buildAcq
  split
  · rename_i h
    constructor
    · intro h'; cases h'
    · rintro ⟨h1, h2, h3, -⟩
      rcases h with h | h | h
      · omega
      · omega
      · exact absurd h (not_le.mpr h3)
  · rename_i h
    rw [not_or, not_or, not_lt, not_lt, not_le] at h
    simp [h.1, h.2.1, h.2.2, eq_comm]

theorem buildCordic_eq_ok_iff {p : CordicParams} {c : CordicConfig} :
    buildCordic p = .ok c ↔
      4 ≤ p.bitDepth ∧ 1 ≤ p.stages ∧
      c = ⟨p, p.bitDepth.toNat, p.stages.toNat,
        (List.range p.stages.toNat).map (cordicDelta (p.bitDepth.toNat - 4)),
        cordicPi (p.bitDepth.toNat - 4), cordicTwoPi (p.bitDepth.toNat - 4)⟩ := by
  unfold buildCordic
  split
  · constructor
    · intro h; cases h
    · rintro ⟨h1, h2, -⟩; omega
  · rename_i h
    rw [not_or, not_lt, not_lt] at h
    simp [h.1, h.2, eq_comm]

theorem buildSeq_eq_ok_iff {p : SeqParams} {c : SeqConfig} :
    buildSeq p = .ok c ↔
      1 ≤ p.width ∧ p.width ≤ p.samplesPerSymbol ∧ p.samplesPerSymbol % p.width = 0 ∧
      1 ≤ p.packet.length ∧
      (∀ s, s ∈ p.packet ∨ s = 0 →
        baseOf p.base s * (p.samplesPerSymbol.toNat / p.width.toNat)
          + p.samplesPerSymbol.toNat / p.width.toNat ≤ p.table.length) ∧
      (∀ v ∈ p.table, v < 2 ^ p.width.toNat) ∧
      c = ⟨p, p.width.toNat, p.samplesPerSymbol.toNat / p.width.toNat, p.table, p.packet, p.base,
        p.gateLat⟩ := by
  unfold buildSeq
  split
  · constructor
    · intro h; cases h
    · rintro ⟨h1, h2, h3, -⟩; omega
  · rename_i h
    rw [not_or, not_or, not_lt, not_lt, not_not] at h
    split
    · constructor
      · intro h'; cases h'
      · rintro ⟨-, -, -, h4, -⟩; omega
    · rename_i h4
      rw [not_lt] at h4
      dsimp only
      split
      · rename_i h5
        constructor
        · intro h'; cases h'
        · rintro ⟨-, -, -, -, h6, -⟩
          refine absurd ?_ h5
          simp only [List.all_eq_true, symbolInTable, decide_eq_true_eq, List.mem_append,
            List.mem_singleton]
          exact h6
      · rename_i h5
        rw [not_not] at h5
        simp only [List.all_eq_true, symbolInTable, decide_eq_true_eq, List.mem_append,
          List.mem_singleton] at h5
        split
        · rename_i h6
          constructor
          · intro h'; cases h'
          · rintro ⟨-, -, -, -, -, h7, -⟩
            exact absurd (by simpa [List.all_eq_true] using h7) h6
        · rename_i h6
          rw [not_not] at h6
          have h7 : ∀ v ∈ p.table, v < 2 ^ p.width.toNat := by simpa [List.all_eq_true] using h6
          constructor
          · intro h'
            cases h'
            exact ⟨h.1, h.2.1, h.2.2, h4, h5, h7, rfl⟩
          · rintro ⟨-, -, -, -, -, -, rfl⟩
            rfl

theorem linkBadClock_eq_false_iff {f : ℤ} {w : Option ℤ} :
    linkBadClock f w = false ↔ 1 ≤ f ∧ ∀ n, w = some n → 1 ≤ n := by
  cases w <;> simp [linkBadClock, not_lt]

theorem buildTxi_eq_ok_iff {p : TxiParams} {c : TxiConfig} :
    buildTxi p = .ok c ↔
      1 ≤ p.sysClkFreq ∧ (∀ n, p.watchdogTicks = some n → 1 ≤ n) ∧
      c = ⟨p, timerConstant p.sysClkFreq, p.watchdogTicks.map Int.toNat⟩ := by
  rw [← and_assoc, ← linkBadClock_eq_false_iff]
  unfold buildTxi
  cases linkBadClock p.sysClkFreq p.watchdogTicks <;> simp [eq_comm]

theorem buildRxi_eq_ok_iff {p : RxiParams} {c : RxiConfig} :
    buildRxi p = .ok c ↔
      1 ≤ p.sysClkFreq ∧ (∀ n, p.watchdogTicks = some n → 1 ≤ n) ∧
      c = ⟨p, timerConstant p.sysClkFreq, p.watchdogTicks.map Int.toNat, p.bufferEnable, p.drpAddr,
        p.drpModMask⟩ := by
  rw [← and_assoc, ← linkBadClock_eq_false_iff]
  unfold buildRxi
  cases linkBadClock p.sysClkFreq p.watchdogTicks <;> simp [eq_comm]

end Sys2Proof.Machine
end

