-- ==== Sys2Proof/Laws/PerInstr.lean ====
section
/-! SUPPORT. Facts about operations as syntax, one lemma per constructor of `Instr`: the encoder's word of an
operation has the fixed bits of the operation's row of spec/opcode_table.json. -/

namespace Sys2Proof.Laws

/-- The word of `i` matches the row of `i` (R86). -/
def RowMatch.Statement (i : Instr) : Prop := encode i &&& i.rowMask = i.rowMatch

theorem RowMatch.rst (unit : UnitCode) (x : RstFields) : RowMatch.Statement (.rst unit x) := by
  obtain ⟨clr, st⟩ := x
  unfold RowMatch.Statement
  revert st
  cases unit <;> cases clr <;> decide

theorem RowMatch.ncoTick : RowMatch.Statement .ncoTick := rfl

theorem RowMatch.matchShift : RowMatch.Statement .matchShift := rfl

theorem RowMatch.acqClr (st : BitVec 4) : RowMatch.Statement (.acqClr st) := by
  unfold RowMatch.Statement
  revert st
  decide

theorem RowMatch.acqSearch : RowMatch.Statement .acqSearch := rfl

theorem RowMatch.acqMeasure : RowMatch.Statement .acqMeasure := rfl

theorem RowMatch.acqSample : RowMatch.Statement .acqSample := rfl

theorem RowMatch.cordicTick : RowMatch.Statement .cordicTick := rfl

theorem RowMatch.seqClr (st : BitVec 4) : RowMatch.Statement (.seqClr st) := by
  unfold RowMatch.Statement
  revert st
  decide

theorem RowMatch.seqRun : RowMatch.Statement .seqRun := rfl

theorem RowMatch.seqIdle : RowMatch.Statement .seqIdle := rfl

theorem RowMatch.sync2Tick : RowMatch.Statement .sync2Tick := rfl

theorem RowMatch.deglTick : RowMatch.Statement .deglTick := rfl

theorem RowMatch.wtmrTick : RowMatch.Statement .wtmrTick := rfl

theorem RowMatch.wdogTick : RowMatch.Statement .wdogTick := rfl

theorem RowMatch.txiPowerDown : RowMatch.Statement .txiPowerDown := rfl

theorem RowMatch.txiWaitPllReset : RowMatch.Statement .txiWaitPllReset := rfl

theorem RowMatch.txiWaitInitDelay : RowMatch.Statement .txiWaitInitDelay := rfl

theorem RowMatch.txiWaitGtpReset : RowMatch.Statement .txiWaitGtpReset := rfl

theorem RowMatch.txiReady : RowMatch.Statement .txiReady := rfl

theorem RowMatch.rxiPowerDown : RowMatch.Statement .rxiPowerDown := rfl

theorem RowMatch.rxiDrpReadIssue : RowMatch.Statement .rxiDrpReadIssue := rfl

theorem RowMatch.rxiDrpReadWait : RowMatch.Statement .rxiDrpReadWait := rfl

theorem RowMatch.rxiDrpModIssue : RowMatch.Statement .rxiDrpModIssue := rfl

theorem RowMatch.rxiDrpModWait : RowMatch.Statement .rxiDrpModWait := rfl

theorem RowMatch.rxiWaitPmarstFall : RowMatch.Statement .rxiWaitPmarstFall := rfl

theorem RowMatch.rxiDrpRestoreIssue : RowMatch.Statement .rxiDrpRestoreIssue := rfl

theorem RowMatch.rxiDrpRestoreWait : RowMatch.Statement .rxiDrpRestoreWait := rfl

theorem RowMatch.rxiWaitGtpReset : RowMatch.Statement .rxiWaitGtpReset := rfl

theorem RowMatch.rxiAlign : RowMatch.Statement .rxiAlign := rfl

theorem RowMatch.rxiWaitAlignDone : RowMatch.Statement .rxiWaitAlignDone := rfl

theorem RowMatch.rxiReady : RowMatch.Statement .rxiReady := rfl

theorem RowMatch.ncoBuild : RowMatch.Statement .ncoBuild := rfl

theorem RowMatch.matchConfig : RowMatch.Statement .matchConfig := rfl

theorem RowMatch.acqConfig : RowMatch.Statement .acqConfig := rfl

theorem RowMatch.cordicConfig : RowMatch.Statement .cordicConfig := rfl

theorem RowMatch.seqConfig : RowMatch.Statement .seqConfig := rfl

theorem RowMatch.txiConfig : RowMatch.Statement .txiConfig := rfl

theorem RowMatch.rxiConfig : RowMatch.Statement .rxiConfig := rfl

end Sys2Proof.Laws
end

