-- ==== Sys2Proof/Laws/Tick.lean ====
section
/-! SUPPORT. The step taken apart: what it means that a word, a tick of a domain, a statement of the
environment or a step answers a next state, and the fields the levels of a tick leave alone. -/

namespace Sys2Proof.Machine

theorem runWord_eq_next_iff {w : SelWord} {s t : State} :
    runWord w s = .next t ↔ ∃ i, decode w = .ok i ∧ exec i s = .next t := by
  unfold runWord
  cases decode w <;> simp

@[simp] theorem runSlots_nil (rst : Level) (s : State) : runSlots rst [] s = .next s := rfl

theorem runSlots_cons (rst : Level) (p : Slot) (ps : List Slot) (s : State) :
    runSlots rst (p :: ps) s = andThen (runSlot rst p s) (runSlots rst ps) := rfl

theorem runSlots_append (rst : Level) (ps qs : List Slot) (s : State) :
    runSlots rst (ps ++ qs) s = andThen (runSlots rst ps s) (runSlots rst qs) := by
  induction ps generalizing s with
  | nil => rfl
  | cons p ps ih =>
    simp only [List.cons_append, runSlots_cons, andThen_assoc]
    congr 1
    exact funext ih

theorem tickDomain_eq_next_iff {d : Domain} {s t : State} :
    tickDomain d s = .next t ↔
      ∃ u, runSlots d.rst (d.members.filter (s.present d.rst)) s.latch = .next u ∧
        t = u.boundary.focusOn s.focus := by
  simp only [tickDomain, andThen_eq_next_iff, Host.Outcome.next.injEq, eq_comm (a := t)]

/-! ### Levels -/

section
variable (n : Nat) (d : Domain) (levels : List PortLevel) (s : State)

@[simp] theorem withLevels_inst : (withLevels n d levels s).inst = s.inst := rfl
@[simp] theorem withLevels_regs : (withLevels n d levels s).regs = s.regs := rfl
@[simp] theorem withLevels_next : (withLevels n d levels s).next = s.next := rfl
@[simp] theorem withLevels_inputs :
    (withLevels n d levels s).inputs = applyLevels s.inputs levels := rfl
@[simp] theorem withLevels_params : (withLevels n d levels s).params = s.params := rfl
@[simp] theorem withLevels_error : (withLevels n d levels s).error = s.error := rfl
@[simp] theorem withLevels_focus : (withLevels n d levels s).focus = s.focus := rfl
@[simp] theorem withLevels_domains :
    (withLevels n d levels s).domains = s.domains.set n (domainLevels d levels) := rfl
@[simp] theorem withLevels_script : (withLevels n d levels s).script = s.script := rfl
@[simp] theorem domainLevels_members : (domainLevels d levels).members = d.members := rfl
@[simp] theorem domainLevels_rst :
    (domainLevels d levels).rst = levels.foldl applyRst d.rst := rfl

end

/-! ### The step -/

theorem step_nil {s : State} (h : s.script = []) : step s = .next s := by simp [step, stepScript, h]

theorem step_cons {s : State} {e : Stim} {rest : List Stim} (h : s.script = e :: rest) :
    step s = stepStim e { s with script := rest } := by simp [step, stepScript, h]

theorem stepTick_eq_next_iff {n : Nat} {levels : List PortLevel} {s t : State} :
    stepTick n levels s = .next t ↔
      (s.domains[n]? = none ∧ t = s) ∨
      (∃ d, s.domains[n]? = some d ∧ clocked s.domains = true ∧
        tickDomain (domainLevels d levels) (withLevels n d levels s) = .next t) := by
  unfold stepTick
  cases s.domains[n]? with
  | none => simp only [Host.Outcome.next.injEq, true_and, reduceCtorEq, false_and, exists_false, or_false, eq_comm]
  | some d => cases clocked s.domains <;> simp

/-- Setting the levels of a domain does not change which places it has. -/
theorem clocked_set_domainLevels {ds : List Domain} {n : Nat} {d : Domain} {levels : List PortLevel}
    (h : ds[n]? = some d) : clocked (ds.set n (domainLevels d levels)) = clocked ds := by
  have e : (ds.set n (domainLevels d levels)).map Domain.members = ds.map Domain.members := by
    rw [List.map_set, domainLevels_members]
    refine List.ext_getElem? fun i => ?_
    rw [List.getElem?_set]
    split
    · rename_i hi
      subst hi
      obtain ⟨hn, rfl⟩ := List.getElem?_eq_some_iff.mp h
      simp [hn]
    · rfl
  have key : ∀ l : List Domain, clocked l =
      ((l.map Domain.members).all (fun m => decide m.Nodup) &&
        decide ((l.map Domain.members).Pairwise fun m k =>
          (m.all fun p => k.all fun q => decide (slotComponent p ≠ slotComponent q)) = true)) := by
    intro l
    simp [clocked, noCrossing, List.pairwise_map, Function.comp_def]
  rw [key, key, e]

theorem stepConfigure_eq_next_iff {call : ConfigCall} {s t : State} :
    stepConfigure call s = .next t ↔
      ∃ i, decode (configWord (ConfigCall.unit call)) = .ok i ∧
        exec i { s with params := presentOperands s.params call } = .next t :=
  runWord_eq_next_iff

end Sys2Proof.Machine
end

