-- ==== Sys2Proof/Machine/Script.lean ====
section
/-! DEFINITION. The two abbreviations of the stimulus script of R90. Its `expect` statement is a statement
about a state and has no effect. -/

namespace Sys2Proof.Machine

/-- `tick *n port=value, ...`: `n` identical tick statements in a domain (R90). -/
def tickTimes (n domain : Nat) (levels : List PortLevel) : List Stim :=
  List.replicate n (.tick domain levels)

/-- `feed port=[v0, v1, ...]`: one tick statement per element, in order (R90). -/
def feed {α : Type} (domain : Nat) (port : α → PortLevel) (values : List α) : List Stim :=
  values.map fun v => .tick domain [port v]

end Sys2Proof.Machine
end

