-- ==== Sys2Proof/Tests/Slice0.lean ====
section
/-! SUPPORT. Tests: ill-formed terms refused, every operation's word written out from R86, the worked examples
of spec/ one step at a time, and for every statement with hypotheses a state that meets them. -/

namespace Sys2Proof.Tests

open Sys2Proof.Machine Sys2Proof.Safety

-- One theorem after the other: the kernel's evaluations would else pile up threads.
set_option Elab.async false

/-! ### Well-formedness: R83, R87 -/

theorem test_acq_state_3_is_ill_formed : (Instr.acqClr 3).wellFormed = false := by decide
theorem test_seq_state_2_is_ill_formed : (Instr.seqClr 2).wellFormed = false := by decide
theorem test_rst_fields_are_checked :
    (Instr.rst .nco ⟨true, 0⟩).wellFormed = false ∧ (Instr.rst .txi ⟨false, 5⟩).wellFormed = false ∧
    (Instr.rst .rxi ⟨false, 12⟩).wellFormed = false ∧ (Instr.rst .acq ⟨true, 2⟩).wellFormed = true ∧
    (Instr.rst .nco ⟨false, 9⟩).wellFormed = true := by decide
theorem test_last_declared_states_are_well_formed :
    (Instr.acqClr 2).wellFormed = true ∧ (Instr.seqClr 1).wellFormed = true := by decide
theorem test_ill_formed_words_are_refused :
    decode (encode (.acqClr 3)) = .error .undeclaredState ∧
    decode (encode (.seqClr 2)) = .error .undeclaredState ∧
    decode (encode (.rst .acq ⟨false, 3⟩)) = .error .undeclaredState ∧
    decode (encode (.rst .wdog ⟨true, 0⟩)) = .error .clrWithoutLevelReset := by decide

/-! ### Every row of R86, written out bit by bit -/

theorem test_decode_rst :
    decode 0b0000_1_0_000000_0000 = .ok (.rst .nco ⟨false, 0⟩) ∧
    decode 0b0100_1_1_000000_0001 = .ok (.rst .seq ⟨true, 1⟩) ∧
    decode 0b1010_1_0_000000_1011 = .ok (.rst .rxi ⟨false, 11⟩) := by decide
theorem test_decode_nco_cordic :
    decode 0b0000_0_0_000000_0000 = .ok .ncoTick ∧ decode 0b0011_0_0_000000_0000 = .ok .cordicTick := by
  decide
theorem test_decode_correlator :
    decode 0b0001_0_0_000000_0000 = .ok .matchShift ∧ decode 0b0010_0_1_000000_0001 = .ok (.acqClr 1) ∧
    decode 0b0010_0_0_000000_0000 = .ok .acqSearch ∧ decode 0b0010_0_0_000000_0001 = .ok .acqMeasure ∧
    decode 0b0010_0_0_000000_0010 = .ok .acqSample := by decide
theorem test_decode_seq :
    decode 0b0100_0_1_000000_0001 = .ok (.seqClr 1) ∧ decode 0b0100_0_0_000000_0000 = .ok .seqRun ∧
    decode 0b0100_0_0_000000_0001 = .ok .seqIdle := by decide
theorem test_decode_primitives :
    decode 0b0101_0_0_000000_0000 = .ok .sync2Tick ∧ decode 0b0110_0_0_000000_0000 = .ok .deglTick ∧
    decode 0b0111_0_0_000000_0000 = .ok .wtmrTick ∧ decode 0b1000_0_0_000000_0000 = .ok .wdogTick := by
  decide
theorem test_decode_txi :
    decode 0b1001_0_0_000000_0000 = .ok .txiPowerDown ∧
    decode 0b1001_0_0_000000_0001 = .ok .txiWaitPllReset ∧
    decode 0b1001_0_0_000000_0010 = .ok .txiWaitInitDelay ∧
    decode 0b1001_0_0_000000_0011 = .ok .txiWaitGtpReset ∧
    decode 0b1001_0_0_000000_0100 = .ok .txiReady := by decide
theorem test_decode_rxi :
    decode 0b1010_0_0_000000_0000 = .ok .rxiPowerDown ∧
    decode 0b1010_0_0_000000_0001 = .ok .rxiDrpReadIssue ∧
    decode 0b1010_0_0_000000_0010 = .ok .rxiDrpReadWait ∧
    decode 0b1010_0_0_000000_0011 = .ok .rxiDrpModIssue ∧
    decode 0b1010_0_0_000000_0100 = .ok .rxiDrpModWait ∧
    decode 0b1010_0_0_000000_0101 = .ok .rxiWaitPmarstFall ∧
    decode 0b1010_0_0_000000_0110 = .ok .rxiDrpRestoreIssue ∧
    decode 0b1010_0_0_000000_0111 = .ok .rxiDrpRestoreWait ∧
    decode 0b1010_0_0_000000_1000 = .ok .rxiWaitGtpReset ∧
    decode 0b1010_0_0_000000_1001 = .ok .rxiAlign ∧
    decode 0b1010_0_0_000000_1010 = .ok .rxiWaitAlignDone ∧
    decode 0b1010_0_0_000000_1011 = .ok .rxiReady := by decide
theorem test_decode_configuration :
    decode 0b1111_0_0_000000_0000 = .ok .ncoBuild ∧ decode 0b1111_0_0_000000_0001 = .ok .matchConfig ∧
    decode 0b1111_0_0_000000_0010 = .ok .acqConfig ∧ decode 0b1111_0_0_000000_0011 = .ok .cordicConfig ∧
    decode 0b1111_0_0_000000_0100 = .ok .seqConfig ∧ decode 0b1111_0_0_000000_1001 = .ok .txiConfig ∧
    decode 0b1111_0_0_000000_1010 = .ok .rxiConfig := by decide
/-- The reserved words of R87, one for each reason. -/
theorem test_decode_reserved :
    decode 0b1011_0_0_000000_0000 = .error .reservedUnit ∧
    decode 0b0000_0_0_000001_0000 = .error .nonzeroField ∧
    decode 0b0000_0_1_000000_0000 = .error .clrWithoutLevelReset ∧
    decode 0b1001_0_0_000000_0101 = .error .undeclaredState ∧
    decode 0b1111_0_0_000000_0101 = .error .noConfigurationOperation ∧
    decode 0b1111_1_0_000000_0000 = .error .levelAtConfiguration := by decide
/-- The reserved words of R87 with `rst = 1`: bits 9:4, `clr` of the NCO, state 5 of the TXI, unit 11. -/
theorem test_decode_reserved_rst :
    decode 0x0810 = .error .nonzeroField ∧ decode 0x0C00 = .error .clrWithoutLevelReset ∧
    decode 0x9805 = .error .undeclaredState ∧ decode 0xB800 = .error .reservedUnit := by decide

/-- The operation of every row runs as the first one after reset. -/
theorem test_rows_run_from_reset :
    ([0x0800, 0x0000, 0x1000, 0x2400, 0x2000, 0x2001, 0x2002, 0x3000, 0x4400, 0x4000, 0x4001, 0x5000, 0x6000,
      0x7000, 0x8000, 0x9000, 0x9001, 0x9002, 0x9003, 0x9004, 0xA000, 0xA001, 0xA002, 0xA003, 0xA004, 0xA005,
      0xA006, 0xA007, 0xA008, 0xA009, 0xA00A, 0xA00B, 0xF000, 0xF001, 0xF002, 0xF003, 0xF004, 0xF009,
      0xF00A].all fun w =>
      match step (State.reset.withFetchWord 16 w) with
      | .next _ => true
      | _ => false) = true := by decide +kernel

/-! ### A configured core -/

/-- `Q` of the next state. -/
def next? (r : Result) (q : State → Bool) : Bool :=
  match r with
  | .next t => q t
  | _ => false

theorem exists_next {r : Result} {q : State → Bool} (h : next? r q = true) : ∃ t, r = .next t ∧ q t = true := by
  cases r with
  | next t => exact ⟨t, rfl, h⟩
  | fault e => cases h
  | refused e => cases h

/-- The operands of the example of R100. -/
def ncoP : NcoParams := ⟨100, 7, 1 / 2, 20, .turns 0, 1000, false, .lsbFirst⟩

/-- What R100 gives for them; the table is that of V4. -/
def ncoC : NcoConfig := ⟨ncoP, 20, 60, 4, [0x7F00F, 0x03F80, 0xE01FC]⟩

/-- A matcher that finds the reset history: pattern `[0]`, interval 1. -/
def matchC : MatchConfig := ⟨⟨[false], 1⟩, [false], 2⟩

/-- The default of R129 for interval 1: `SPS = 2`, `CB = 2`. -/
def acqC : AcqConfig := ⟨⟨none, none⟩, 2, 2⟩

/-- `B = 4`, `S = 1`, with the constants of R140. -/
def cordicC : CordicConfig := ⟨⟨4, 1⟩, 4, 1, [1], 3, 6⟩

/-- Two symbols of one two-bit word each, played in the order 1, 0. -/
def seqC : SeqConfig := ⟨⟨[1, 2], [1, 0], 2, 2, [], .two⟩, 2, 1, [1, 2], [1, 0], [], .two⟩

/-- `T = 1`, with or without a watchdog. -/
def txiC (w : Option Nat) : TxiConfig := ⟨⟨1, false, w.map Int.ofNat⟩, 1, w⟩

/-- `T = 1`, the buffer in use, the default DRP operands. -/
def rxiC (w : Option Nat) : RxiConfig :=
  ⟨⟨1, true, w.map Int.ofNat, 0x011, 0xF7FF⟩, 1, w, true, 0x011, 0xF7FF⟩

/-- Every place of the core. -/
def allSlots : List Slot := [.nco, .matcher, .acq, .cordic, .seq] ++ linkSlots .tx ++ linkSlots .rx

/-- The reset registers of the configured core. -/
def regs0 (w : Option Nat) : Regs where
  nco := ncoResetRegs
  matcher := matchResetRegs matchC
  acq := acqResetRegs
  cordic := cordicResetRegs cordicC
  seq := seqResetRegs
  txi := txiResetRegs (txiC w)
  rxi := rxiResetRegs (rxiC w)

/-- Fourteen ticks in which both link-training FSMs come up. -/
def bringUp : List Stim :=
  [.tick 0 [.matchInput true, .txPlllock true, .txresetdone true, .rxPlllock true, .rxresetdone true,
    .rxpmaresetdone true, .drprdy true, .drpdo 0xABCD]]
  ++ tickTimes 6 0 [] ++ tickTimes 7 0 [.rxpmaresetdone false]

/-- Every unit configured, all in one domain, at tick 0. -/
def demo (w : Option Nat) (script : List Stim) : State :=
  { State.reset with
    inst := ⟨some ncoC, some matchC, some acqC, some cordicC, some seqC, some (txiC w), some (rxiC w)⟩
    regs := regs0 w
    next := regs0 w
    domains := [⟨allSlots, false⟩]
    script := script }

/-- The core with other registers. -/
def withRegs (s : State) (r : Regs) : State := { s with regs := r }

/-- The configuration operations give the constants and tables above, and those of the examples of R140. -/
theorem test_configuration_examples :
    (match buildNco ncoP with | .ok c => decide (c = ncoC) | .error _ => false) = true ∧
    (match buildAcq 1 ⟨none, none⟩ with | .ok c => decide (c = acqC) | .error _ => false) = true ∧
    (match buildCordic ⟨4, 1⟩ with | .ok c => decide (c = cordicC) | .error _ => false) = true ∧
    (match buildCordic ⟨12, 12⟩ with
      | .ok c => decide ((c.delta, c.piFix, c.twoPiFix) =
          ([201, 119, 63, 32, 16, 8, 4, 2, 1, 0, 0, 0], 804, 1608))
      | .error _ => false) = true ∧
    (match buildCordic ⟨8, 8⟩ with
      | .ok c => decide ((c.delta, c.piFix, c.twoPiFix) = ([13, 7, 4, 2, 1, 0, 0, 0], 50, 101))
      | .error _ => false) = true ∧
    timerConstant 100500000 = 101 := by decide +kernel

/-- V25, V35 and R240: refused operands, the cause recorded, no instance. -/
theorem test_configuration_errors :
    next? (exec .matchConfig (demo none []))
      (fun t => decide (t.error = some ⟨.matcher ⟨[], 0⟩, .corrBadParameter⟩ ∧ t.inst.matcher = none)) = true ∧
    next? (exec .cordicConfig (demo none []))
      (fun t => decide (t.error = some ⟨.cordic ⟨0, 0⟩, .cordicBadParameter⟩ ∧ t.inst.cordic = none)) = true ∧
    next? (exec .txiConfig (demo none [])) (fun t => decide (t.inst.txi = none)) = true := by decide +kernel

/-! ### One step of each operation, by the examples of the rules -/

/-- R104: from the last word `index` wraps. -/
theorem test_nco_tick_wraps :
    next? (exec .ncoTick (withRegs (demo none []) { regs0 none with nco := ⟨2, 0x03F80⟩ }))
      (fun t => decide (t.next.nco = ⟨0, 0xE01FC⟩)) = true := by decide +kernel

/-- R121: `[a, b, c]` and input `d` give `[b, c, d]`. -/
theorem test_match_shift :
    next? (exec .matchShift (withRegs (demo none []) { regs0 none with matcher := ⟨[true, false, true]⟩ }))
      (fun t => decide (t.next.matcher = ⟨[false, true, false]⟩)) = true := by decide +kernel

/-- R122: `pattern = [0,1,1,0]`, `interval = 1`, `hist = [0,1,1,1,1,0,0]` match. -/
theorem test_match_flag :
    matchFlag ⟨⟨[], 0⟩, [false, true, true, false], 2⟩ ⟨[false, true, true, true, true, false, false]⟩ = true ∧
    matchFlag ⟨⟨[], 0⟩, [false, true, true, false], 2⟩ ⟨[false, true, true, true, false, false, false]⟩ = false := by
  decide

/-- R124. -/
theorem test_acq_clr :
    next? (exec (.acqClr 2) (withRegs (demo none []) { regs0 none with acq := ⟨.sampling, 3, 2⟩ }))
      (fun t => decide (t.next.acq = ⟨.searching, 0, 0⟩)) = true := by decide +kernel

/-- R125 with `match = 1`, and `counter` kept. -/
theorem test_acq_search :
    next? (exec .acqSearch (withRegs (demo none []) { regs0 none with acq := ⟨.searching, 3, 1⟩ }))
      (fun t => decide (t.next.acq = ⟨.measuring, 0, 1⟩)) = true := by decide +kernel

/-- R126: `CB = 3`, `eye_width = 3`, `match = 0` load 2. -/
theorem test_acq_measure :
    next? (exec .acqMeasure { withRegs (demo none []) { regs0 none with
        acq := ⟨.measuring, 3, 0⟩, matcher := ⟨[true]⟩ } with
        inst := { (demo none []).inst with acq := some ⟨⟨none, none⟩, 4, 3⟩ } })
      (fun t => decide (t.next.acq = ⟨.sampling, 3, 2⟩)) = true := by decide +kernel

/-- R127: `SPS = 4`, `CB = 3`: 3 goes to 0 with a strobe, and 7 wraps to 0. -/
theorem test_acq_sample :
    next? (exec .acqSample { withRegs (demo none []) { regs0 none with acq := ⟨.sampling, 1, 7⟩ } with
        inst := { (demo none []).inst with acq := some ⟨⟨none, none⟩, 4, 3⟩ } })
      (fun t => decide (t.next.acq = ⟨.sampling, 1, 0⟩)) = true ∧
    sampleStrobe ⟨⟨none, none⟩, 4, 3⟩ ⟨.sampling, 1, 3⟩ = true := by decide +kernel

/-- R142: the three iterations of `(300, 400)` with `B = 12`. -/
theorem test_cordic_iterations :
    cordicIter 0 201 (cordicFlip 300 400) = ⟨700, 100, 201, false⟩ ∧
    cordicIter 1 119 ⟨700, 100, 201, false⟩ = ⟨750, -250, 320, false⟩ ∧
    cordicIter 2 63 ⟨750, -250, 320, false⟩ = ⟨813, -63, 257, false⟩ ∧
    cordicFlip (-1000) (-1000) = ⟨1000, -1000, 0, true⟩ ∧
    asr (-1) 5 = -1 ∧ asr (-5) 1 = -3 ∧ asr (-9) 3 = -2 := by decide

/-- V30: a whole rotation, flipped and not. -/
theorem test_cordic_output :
    let c : CordicConfig := ⟨⟨12, 8⟩, 12, 8, [201, 119, 63, 32, 16, 8, 4, 2], 804, 1608⟩
    cordicOutput c 300 400 = (824, 239) ∧ cordicOutput c (-1000) (-1000) = (2331, 1007) ∧
    cordicOutput c 3 (-4) = (12, 1353) := by decide

/-- R144, V33: the second rank of `CORDIC.TICK` with `y = 0` adds `delta[0]`. -/
theorem test_cordic_tick :
    next? (exec .cordicTick { demo none [] with inputs := { Inputs.initial with cordicX := -8, cordicY := 3 } })
      (fun t => decide (t.next.cordic =
        ⟨[⟨8, 3, 0, true⟩, ⟨0, 0, 1, false⟩], 0, 0⟩)) = true := by decide +kernel

/-- R164: `WPS = 10`, five symbols: `(4, 9)` ends the packet, `(2, 9)` goes to `(3, 0)`. -/
theorem test_seq_run :
    let c : SeqConfig := ⟨⟨[], [], 0, 0, [], .two⟩, 20, 10, List.range 100, [1, 2, 3, 4, 5], [], .two⟩
    let s := fun i j => { withRegs (demo none []) { regs0 none with
        seq := ⟨i, j, 7, 3, 0, false, false, false⟩ } with inst := { (demo none []).inst with seq := some c } }
    next? (exec .seqRun (s 4 9)) (fun t => decide (t.next.seq = ⟨0, 0, 9, 5, 37, true, false, false⟩)) = true ∧
    next? (exec .seqRun (s 2 9)) (fun t => decide (t.next.seq = ⟨3, 0, 9, 3, 37, false, false, false⟩)) = true := by
  decide +kernel

/-- R165: the counters stay at 0, `sym_reg` becomes `packet[0]`. -/
theorem test_seq_idle :
    next? (exec .seqIdle (withRegs (demo none []) { regs0 none with seq := ⟨0, 0, 0, 0, 0, true, true, false⟩ }))
      (fun t => decide (t.next.seq = ⟨0, 0, 0, 1, 1, true, true, true⟩)) = true := by decide +kernel

/-- R166. -/
theorem test_seq_clr :
    next? (exec (.seqClr 1) (withRegs (demo none []) { regs0 none with seq := ⟨1, 0, 0, 1, 2, true, true, true⟩ }))
      (fun t => decide (t.next.seq = seqResetRegs)) = true := by decide +kernel

/-- R181. -/
theorem test_sync2 :
    next? (exec .sync2Tick { withRegs (demo none []) { regs0 none with
        txi := { txiResetRegs (txiC none) with sync := ⟨⟨true, false⟩, ⟨false, true⟩⟩ } } with
        inputs := { Inputs.initial with txresetdone := true } })
      (fun t => decide (t.next.txi.sync = ⟨⟨false, true⟩, ⟨true, false⟩⟩)) = true := by decide +kernel

/-- R203: `drpvalue = 0xABCD` puts `0xA3CD` on the port with `drpen` and `drpwe`. -/
theorem test_degl_of_drp_write :
    next? (exec .deglTick ({ withRegs (demo none []) { regs0 none with
        rxi := { rxiResetRegs (rxiC none) with state := .drpModIssue, drpvalue := 0xABCD } } with focus := .rx }))
      (fun t => decide (t.next.rxi.degl = ⟨true, false, false, false, true, true, 0xA3CD⟩)) = true := by
  decide +kernel

/-- R183: `count` saturates at 0, and reloads where `wait` is 0. -/
theorem test_wtmr :
    next? (exec .wtmrTick (withRegs (demo none []) { regs0 none with
        txi := { txiResetRegs (txiC none) with count := 0 } })) (fun t => decide (t.next.txi.count = 0)) = true ∧
    next? (exec .wtmrTick (withRegs (demo none []) { regs0 none with
        txi := { txiResetRegs (txiC none) with count := 0, state := .ready } }))
      (fun t => decide (t.next.txi.count = 1)) = true := by decide +kernel

/-- R185: the expiring watchdog overrides the FSM's transition and reloads the timer. -/
theorem test_wdog_expires :
    next? (exec .wdogTick (withRegs (demo (some 3) []) { regs0 (some 3) with
        txi := { txiResetRegs (txiC none) with wd := 2, state := .waitGtpReset, count := 0 } }))
      (fun t => decide ((t.next.txi.state, t.next.txi.wd, t.next.txi.count) = (.powerDown, 0, 1))) = true ∧
    next? (exec .txiWaitGtpReset (withRegs (demo (some 3) []) { regs0 (some 3) with
        txi := { txiResetRegs (txiC none) with
          wd := 2, state := .waitGtpReset, sync := ⟨⟨true, true⟩, ⟨true, true⟩⟩ } }))
      (fun t => decide (t.next.txi.state = .powerDown)) = true := by decide +kernel

/-- R202: `drpdo` is captured in the tick `drprdy` is 1. -/
theorem test_rxi_drp_read_wait :
    next? (exec .rxiDrpReadWait { demo none [] with
        inputs := { Inputs.initial with drprdy := true, drpdo := 0xABCD } })
      (fun t => decide ((t.next.rxi.state, t.next.rxi.drpvalue) = (.drpModIssue, 0xABCD))) = true := by
  decide +kernel

/-- R205: a low level alone is no falling edge. -/
theorem test_rxi_wait_pmarst_fall :
    next? (exec .rxiWaitPmarstFall (demo none []))
      (fun t => decide (t.next.rxi.state = .waitPmarstFall)) = true ∧
    next? (exec .rxiWaitPmarstFall (withRegs (demo none []) { regs0 none with
        rxi := { rxiResetRegs (rxiC none) with pmadoneR := true } }))
      (fun t => decide ((t.next.rxi.state, t.next.rxi.pmadoneR) = (.drpRestoreIssue, false))) = true := by
  decide +kernel

/-- R208: with the data buffer disabled the alignment states follow. -/
theorem test_rxi_wait_gtp_reset :
    next? (exec .rxiWaitGtpReset { withRegs (demo none []) { regs0 none with
        rxi := { rxiResetRegs (rxiC none) with
          sync := { rxiSyncReset with rxresetdone := ⟨true, true⟩ } } } with
        inst := { (demo none []).inst with rxi := some { rxiC none with bufferEnable := false } } })
      (fun t => decide (t.next.rxi.state = .align)) = true := by decide +kernel

/-! ### Witnesses of the hypotheses of the statements -/

theorem seqC_ok : SeqOk seqC seqResetRegs := by
  refine ⟨by decide, by decide, by decide, ?_, by decide, by decide, by decide, by decide, by decide, by decide,
    by decide⟩
  intro s h
  have h' : s ∈ [1, 0] := by rcases h with h | h; exact h; simp [h]
  fin_cases h' <;> decide

theorem mem_allSlots (p : Slot) : p ∈ allSlots := by
  cases p with
  | link v q => cases v <;> cases q <;> decide
  | _ => decide

theorem demo_inv (w : Nat) (hw : 0 < w) (script : List Stim) : Inv (demo (some w) script) := by
  have hn : NcoOk ncoC ncoResetRegs :=
    ⟨by decide, by decide, by decide, by decide, by decide, by decide⟩
  have hm : MatchOk matchC (matchResetRegs matchC) := ⟨by decide, by decide, by decide⟩
  have ha : AcqOk acqC acqResetRegs := ⟨by decide, by decide, by decide, by decide, by decide⟩
  have hc : CordicOk cordicC (cordicResetRegs cordicC) := ⟨by decide, by decide, by decide, by decide⟩
  refine ⟨?_, ?_, ?_, ?_, ?_, ?_, ?_, ⟨(by decide +kernel : clocked [⟨allSlots, false⟩] = true),
    fun p => ⟨⟨allSlots, false⟩, List.mem_singleton.mpr rfl, mem_allSlots p⟩⟩⟩ <;>
    intro c h <;> cases h
  · exact hn
  · exact hm
  · exact ha
  · exact hc
  · exact seqC_ok
  · exact ⟨Nat.le_refl 1, Nat.le_refl 1, fun n h => by cases h; exact hw⟩
  · exact ⟨Nat.le_refl 1, Nat.le_refl 1, fun n h => by cases h; exact hw⟩

/-- `n` ticks of domain `d` are possible from `s`. -/
def runs (d : Nat) : Nat → State → Bool
  | 0, _ => true
  | n + 1, s =>
    (match s.script with
      | .tick e _ :: _ => decide (e = d)
      | _ => false) &&
    next? (step s) (runs d n)

theorem tickRun_of_runs {d n : Nat} {s : State} (h : runs d n s = true) :
    TickRun d n fun k => stepTimes k s := by
  induction n generalizing s with
  | zero => intro k hk; omega
  | succ n ih =>
    simp only [runs, Bool.and_eq_true] at h
    obtain ⟨t, ht, hr⟩ := exists_next h.2
    intro k hk
    cases k with
    | zero =>
      refine ⟨?_, by simp [stepTimes, ht]⟩
      have h1 := h.1
      simp only [stepTimes]
      revert h1
      split
      · rename_i e l rest hs
        intro h1
        exact ⟨l, rest, by rw [hs, of_decide_eq_true h1]⟩
      · intro h1; cases h1
    | succ k =>
      have := ih hr k (by omega)
      simpa [stepTimes, ht] using this

/-- The run of the demonstration script. -/
def σ (k : Nat) : State := stepTimes k (demo none bringUp)

theorem tickRun_demo : TickRun 0 14 σ := tickRun_of_runs (by decide +kernel)

theorem rstLow_demo : RstLow 0 14 σ := by
  intro k hk
  have : (List.range 14).all (fun k => !rstLevel (σ (k + 1)) 0) = true := by decide +kernel
  simpa using List.all_eq_true.mp this k (List.mem_range.mpr hk)

/-- What the run of the demonstration shows: playback, acquisition, a whole symbol packet, both READY states and
the three DRP transactions occur in it. -/
theorem test_demo_run :
    (σ 4).regs.nco = ⟨1, 0x7F00F⟩ ∧ (σ 1).regs.acq.state = .measuring ∧ (σ 2).regs.acq.state = .sampling ∧
    (σ 2).regs.seq.done = true ∧ (σ 4).regs.txi.state = .waitInitDelay ∧
    (σ 5).regs.txi.state = .waitGtpReset ∧ (σ 6).regs.txi.state = .ready ∧
    (σ 4).regs.rxi.state = .drpReadIssue ∧ (σ 13).regs.rxi.state = .ready ∧
    (σ 5).regs.rxi.degl.drpen = true ∧ (σ 7).regs.rxi.degl.drpdi = 0xA3CD ∧
    (σ 11).regs.rxi.degl.drpdi = 0xABCD ∧ (σ 11).regs.rxi.degl.drpwe = true := by decide +kernel

theorem witness_DecodeEncodeRoundTrip : (Instr.acqClr 2).wellFormed = true := by decide

theorem witness_DecodedWordIsItsEncoding : decode 0x2402 = .ok (.acqClr 2) := by decide

theorem witness_StepRunsDecodedOperation :
    ∃ (s : State) (levels : List PortLevel) (d : Domain),
      s.script = [.tick 0 levels] ∧ s.domains[0]? = some d ∧ d.members = [.acq] ∧ clocked s.domains = true ∧
      let rst := (domainLevels d levels).rst
      let u := withLevels 0 d levels { s with script := [] }
      u.present rst .acq = true ∧ decode (u.selector rst .acq) = .ok .acqSearch :=
  ⟨{ demo none [.tick 0 [.rst false]] with domains := [⟨[.acq], true⟩] }, [.rst false], ⟨[.acq], true⟩,
    by decide +kernel⟩

theorem witness_StepRunsConfigurationOperation :
    (demo none [.configure (.acq ⟨some 4, none⟩)]).script = [.configure (.acq ⟨some 4, none⟩)] ∧
    decode (configWord (ConfigCall.unit (.acq ⟨some 4, none⟩))) = .ok .acqConfig := by decide +kernel

/-- A partition that is clocked, and two that are not: the correlator split, and the NCO in two domains. -/
theorem witness_TickRunsEveryUnitOnce :
    (demo none [.tick 0 []]).script = [.tick 0 []] ∧
    (demo none [.tick 0 []]).domains[0]? = some ⟨allSlots, false⟩ ∧
    clocked (demo none [.tick 0 []]).domains = true ∧ clocked initialDomains = true ∧
    clocked [⟨[.matcher], false⟩, ⟨[.acq], false⟩] = false ∧
    clocked [⟨[.nco], false⟩, ⟨[.nco], false⟩] = false ∧ clocked [⟨[.nco, .nco], false⟩] = false := by
  decide +kernel

theorem witness_UnitOrderIsIrrelevant :
    allSlots.reverse.Perm allSlots ∧
    ∃ t, tickDomain ⟨allSlots, false⟩ (demo (some 1) []) = .next t ∧ (!t.regs.nco.out == 0) = true :=
  ⟨List.reverse_perm _, exists_next (q := fun t => !t.regs.nco.out == 0) (by decide +kernel)⟩

theorem witness_OtherStatementsOfTheEnvironment :
    State.reset.script = [] ∧ (demo none [.tick 7 []]).domains[7]? = none ∧
    (demo none [.destroy .rxi]).script = [.destroy .rxi] := by decide +kernel

theorem witness_StepKeepsInvariant :
    Inv (demo (some 2) bringUp) ∧ ∃ t, step (demo (some 2) bringUp) = .next t ∧ true = true :=
  ⟨demo_inv 2 (by decide) _, exists_next (q := fun _ => true) (by decide +kernel)⟩

theorem witness_StepNeverStops : Inv (demo (some 1) bringUp) := demo_inv 1 (by decide) _

theorem witness_RstResult :
    (demo none []).inst.nco = some ncoC ∧ (demo none []).inst.matcher = some matchC ∧
    (demo none []).inst.acq = some acqC ∧ (demo none []).inst.cordic = some cordicC ∧
    (demo none []).inst.seq = some seqC ∧ (demo none []).inst.txi = some (txiC none) ∧
    (demo none []).inst.rxi = some (rxiC none) ∧ (demo none []).focus = .tx ∧
    ((demo none []).focusOn .rx).focus = .rx := by decide +kernel

theorem witness_DomainResetRestoresRegisters (w : Option Nat) (hw : w = none ∨ w = some 3) :
    (∃ t, step (demo w [.tick 0 [.rst true]]) = .next t ∧ rstLevel t 0 = true) ∧
    (allSlots.all fun p => decide (p ∈ members (demo w [.tick 0 [.rst true]]) 0)) = true := by
  rcases hw with rfl | rfl
  · exact ⟨exists_next (q := fun t => rstLevel t 0) (by decide +kernel), by decide +kernel⟩
  · exact ⟨exists_next (q := fun t => rstLevel t 0) (by decide +kernel), by decide +kernel⟩

theorem witness_NcoTickResult :
    (demo none []).inst.nco = some ncoC ∧ ncoC.table[0]? = some 0x7F00F ∧ ncoC.table[2]? = some 0xE01FC := by
  decide +kernel

/-- Bad operands, a period under a bound that R100's example just reaches, and none below it. -/
theorem witness_NcoBuildOutcome :
    (1 ≤ ncoP.width ∧ 0 < ncoP.sampleRate ∧ 0 < ncoP.maxError ∧ 0 ≤ ncoP.frequency) ∧
    ncoAccepts ncoP 20 = false ∧ ncoAccepts ncoP 40 = false ∧ ncoAccepts ncoP 60 = true ∧
    next? (exec .ncoBuild { State.reset with params := { Params.initial with nco := { ncoP with maxSamples := 60 } } })
      (fun t => t.inst.nco.isSome) = true ∧
    next? (exec .ncoBuild { State.reset with params := { Params.initial with nco := { ncoP with maxSamples := 59 } } })
      (fun t => decide (t.error.map (·.cause) = some .ncoNoPeriod)) = true ∧
    next? (exec .ncoBuild State.reset)
      (fun t => decide (t.error.map (·.cause) = some .ncoBadParameter)) = true := by decide +kernel

theorem witness_NcoCyclesRoundHalfToEven : 0 < ncoP.sampleRate ∧ ncoCycles ⟨8, 3, 2, 4, .turns 0, 9, false, .lsbFirst⟩ 4 = 2 := by
  decide +kernel

/-- For NcoRealizedFrequencyWithinTolerance and NcoTableHoldsCosineSigns. -/
theorem witness_built_nco :
    ∃ t, exec .ncoBuild { State.reset with params := { Params.initial with nco := ncoP } } = .next t ∧
      decide (t.inst.nco = some ncoC ∧ 2 < ncoC.table.length ∧ 19 < ncoC.width) = true :=
  exists_next (q := fun t => decide (t.inst.nco = some ncoC ∧ 2 < ncoC.table.length ∧ 19 < ncoC.width))
    (by decide +kernel)

theorem witness_NcoEveryRealPhaseIsPresented : 0 < 8 := by decide

theorem one_radian_irrational : Irrational (1 / (2 * Real.pi)) := by
  rw [one_div]
  exact (irrational_inv_iff).mpr (by simpa using irrational_pi.ratCast_mul (q := 2) (by norm_num))

/-- R8, R103: the phase of 1 radian. With `N = 8`, `cycles = 1` the cosines of `pi*n/4 - 1` are positive for `n` in
0..3 and negative for `n` in 4..7. -/
theorem test_one_radian_is_presented :
    PresentsPhase 8 1 1 (.samples [true, true, true, true, false, false, false, false]) := by
  have h3 := Real.pi_gt_three
  have h4 := Real.pi_lt_d2
  have hc : ∀ n : ℕ, ncoCosine 1 8 1 n = Real.cos (Real.pi * n / 4 - 1) := fun n => by
    unfold ncoCosine; congr 1; push_cast; ring
  refine ⟨one_radian_irrational, rfl, fun n hn => ?_⟩
  rw [hc]
  by_cases h : n < 4
  · have hx : 0 < Real.cos (Real.pi * n / 4 - 1) := by
      apply Real.cos_pos_of_mem_Ioo
      interval_cases n <;> constructor <;> push_cast <;> linarith
    interval_cases n <;> simpa using hx
  · have hx : Real.cos (Real.pi * n / 4 - 1) < 0 := by
      apply Real.cos_neg_of_pi_div_two_lt_of_lt <;> interval_cases n <;> push_cast <;> linarith
    interval_cases n <;> simpa using hx.le

/-- The table of the carrier of phase 1 radian, and a list of samples that no phase has. -/
theorem test_nco_build_samples :
    (match buildNco ⟨8, 1, 1 / 2, 4, .samples [true, true, true, true, false, false, false, false], 8, false,
        .lsbFirst⟩ with
      | .ok c => decide (c.table = [0xF, 0x0])
      | .error _ => false) = true ∧
    (match buildNco ⟨8, 1, 1 / 2, 4, .samples [true, false, true, true, false, false, false, false], 8, false,
        .lsbFirst⟩ with
      | .ok _ => false
      | .error e => decide (e = .ncoBadParameter)) = true := by decide +kernel

theorem witness_NcoPlaybackClosedForm :
    TickRun 0 14 σ ∧ RstLow 0 14 σ ∧ .nco ∈ members (σ 0) 0 ∧ (σ 0).inst.nco = some ncoC ∧
    1 ≤ ncoC.table.length ∧ (σ 0).regs.nco = ⟨0, 0⟩ ∧
    (match buildNco ncoP with | .ok c => decide (c = ncoC) | .error _ => false) = true :=
  ⟨tickRun_demo, rstLow_demo, by decide +kernel⟩

theorem witness_MatchShiftResult :
    (demo none []).inst.matcher = some matchC ∧ (demo none []).regs.matcher.hist ≠ [] := by decide +kernel

theorem witness_AcqOperationResults :
    (demo none []).inst.acq = some acqC ∧ (demo none []).inst.matcher = some matchC ∧
    (demo none []).regs.acq.counter ≠ acqC.sps - 1 ∧
    matchFlag matchC ⟨[false]⟩ = true ∧ matchFlag matchC ⟨[true]⟩ = false := by decide +kernel

theorem witness_CorrelatorConfigOutcome :
    Params.initial.matcher.pattern = [] ∧ (⟨[true], 0⟩ : MatchParams).pattern ≠ [] ∧
    Params.initial.acq.sps = none ∧ Params.initial.acq.cntBits = none ∧
    (1 : ℤ) ≤ 2 ∧ (2 : ℤ) < 2 ^ 2 ∧ (2 : ℤ) ^ 1 ≤ 2 ∧ ¬ ((2 : ℤ) < 1 ∨ (2 : ℤ) < 1 ∨ (2 : ℤ) ^ 2 ≤ 2 - 1) ∧
    (5 : ℤ) - 1 ≥ 2 ^ 2 := by decide

theorem witness_MatchFollowsInputStream :
    TickRun 0 14 σ ∧ RstLow 0 14 σ ∧ .matcher ∈ members (σ 0) 0 ∧ (σ 0).inst.matcher = some matchC ∧
    (σ 0).regs.matcher.hist = List.replicate ((matchC.pattern.length - 1) * matchC.spacing + 1) false :=
  ⟨tickRun_demo, rstLow_demo, by decide +kernel⟩

theorem witness_AcqStrobeAlignment :
    TickRun 0 14 σ ∧ RstLow 0 14 σ ∧ .acq ∈ members (σ 0) 0 ∧ (σ 0).inst.acq = some acqC ∧
    (σ 0).inst.matcher = some matchC ∧ 1 ≤ acqC.sps ∧ acqC.sps ≤ 2 ^ acqC.cntBits ∧
    (σ 0).regs.acq.state = .searching ∧ (1 - 1) / 2 + 1 ≤ acqC.sps - 1 ∧ 1 - 1 < 2 ^ acqC.cntBits ∧
    ((List.range 14).all fun k => decide ((σ k).matchOut = some (decide (k < 1)))
      && !(σ (k + 1)).inputs.acqReset) = true :=
  ⟨tickRun_demo, rstLow_demo, by decide +kernel⟩

theorem witness_CordicTickResult :
    (demo none []).inst.cordic = some cordicC ∧ 4 ≤ cordicC.bitDepth ∧ cordicC.delta.length = cordicC.stages ∧
    (demo none []).regs.cordic.ranks.length = cordicC.stages + 1 ∧
    -(2 ^ (cordicC.bitDepth - 1)) ≤ (-8 : ℤ) ∧ (7 : ℤ) < 2 ^ (cordicC.bitDepth - 1) ∧
    (2 : ℤ) ^ cordicC.bitDepth ∣ 8 - (-8) := by decide +kernel

theorem witness_CordicConfigOutcome :
    (Params.initial.cordic.bitDepth < 4 ∨ Params.initial.cordic.stages < 1) ∧
    (4 : ℤ) ≤ (⟨4, 1⟩ : CordicParams).bitDepth ∧ (1 : ℤ) ≤ (⟨4, 1⟩ : CordicParams).stages := by decide

theorem witness_CordicConstantsAreRoundings :
    ∃ t, exec .cordicConfig { State.reset with params := { Params.initial with cordic := ⟨4, 1⟩ } } = .next t ∧
      decide (t.inst.cordic = some cordicC) = true :=
  exists_next (q := fun t => decide (t.inst.cordic = some cordicC)) (by decide +kernel)

/-- For CordicLatency, CordicWarmUp, CordicAngleInRange and CordicRanksFitInTwoMoreBits. -/
theorem witness_cordic_run :
    TickRun 0 14 σ ∧ RstLow 0 14 σ ∧ .cordic ∈ members (σ 0) 0 ∧ (σ 0).inst.cordic = some cordicC ∧
    4 ≤ cordicC.bitDepth ∧ cordicC.delta.length = cordicC.stages ∧ (∀ δ ∈ cordicC.delta, 0 ≤ δ) ∧
    cordicC.delta.sum ≤ cordicC.piFix ∧ cordicC.piFix + cordicC.delta.sum < cordicC.twoPiFix ∧
    10 * cordicC.stages < 7 * 2 ^ (cordicC.bitDepth - 1) ∧ 11 + cordicC.stages + 2 ≤ 14 ∧
    (σ 0).regs.cordic = ⟨List.replicate (cordicC.stages + 1) ⟨0, 0, 0, false⟩, 0, 0⟩ :=
  ⟨tickRun_demo, rstLow_demo, by decide +kernel⟩

/-- `(0, 0)` in the last place of the window, not the last symbol; and the last symbol. -/
theorem witness_SeqOperationResults :
    (demo none []).inst.seq = some seqC ∧ seqC.packet[0]? = some 1 ∧ seqC.packet[1]? = some 0 ∧
    seqC.table[baseOf seqC.base 0 * seqC.wps + 0]? = some 1 ∧ 0 = seqC.wps - 1 ∧
    0 ≠ seqC.packet.length - 1 ∧ 1 = seqC.packet.length - 1 ∧
    (∀ offset, (7, offset) ∉ [(3, 0)]) ∧ (∀ other, (3, other) ∉ [(4, 9)]) :=
  ⟨by decide +kernel, by decide +kernel, by decide +kernel, by decide +kernel, by decide, by decide, by decide,
    by simp, by simp⟩

/-- R160, R161: `base` lists symbol 3 with offset 0 and not symbol 1, so that symbol 3 plays the word at 0 and
symbol 1 that at 1. -/
theorem test_seq_base :
    let s := fun sym => { withRegs (demo none []) { regs0 none with
        seq := ⟨0, 0, 0, sym, 0, false, false, false⟩ } with
        inst := { (demo none []).inst with seq := some { seqC with table := [5, 6], wps := 1, base := [(3, 0)] } } }
    next? (exec .seqRun (s 3)) (fun t => decide (t.next.seq.outReg = 5)) = true ∧
    next? (exec .seqRun (s 1)) (fun t => decide (t.next.seq.outReg = 6)) = true := by decide +kernel

theorem witness_SeqConfigOutcome :
    Params.initial.seq.width < 1 ∧ (2 : ℤ) % 2 = 0 ∧ ([] : List Nat).length = 0 ∧
    next? (exec .seqConfig { State.reset with params := { Params.initial with seq := seqC.params } })
      (fun t => decide (t.inst.seq = some seqC)) = true ∧
    next? (exec .seqConfig { State.reset with params := { Params.initial with seq := { seqC.params with packet := [] } } })
      (fun t => decide (t.error.map (·.cause) = some .seqEmptyPacket)) = true ∧
    next? (exec .seqConfig { State.reset with params := { Params.initial with seq := { seqC.params with packet := [2] } } })
      (fun t => decide (t.error.map (·.cause) = some .seqSymbolRange)) = true ∧
    next? (exec .seqConfig { State.reset with params := { Params.initial with seq := { seqC.params with table := [1, 4] } } })
      (fun t => decide (t.error.map (·.cause) = some .seqWordWidth)) = true := by decide +kernel

theorem witness_SeqPlaybackClosedForm :
    (TickRun 0 14 σ ∧ RstLow 0 14 σ ∧ .seq ∈ members (σ 0) 0 ∧ (σ 0).inst.seq = some seqC ∧
      ((List.range 14).all fun k => !(σ (k + 1)).inputs.seqReset) = true ∧ seqC.gateLat = .two ∧
      (σ 0).regs.seq = ⟨0, 0, 0, 0, 0, false, false, false⟩ ∧ seqC.packet.length * seqC.wps + 2 ≤ 14) ∧
    SeqOk seqC (σ 0).regs.seq :=
  ⟨⟨tickRun_demo, rstLow_demo, by decide +kernel⟩, seqC_ok⟩

theorem witness_SeqReplayIsIdentical :
    let τ := fun k => stepTimes k (demo none ([.tick 0 [.seqReset true], .tick 0 [.seqReset false]] ++ tickTimes 3 0 []))
    TickRun 0 5 τ ∧ TickRun 0 14 σ ∧ RstLow 0 14 σ ∧ (τ 0).inst.seq = some seqC ∧
    (τ 1).inputs.seqReset = true ∧
    ((List.range 5).all fun k => !rstLevel (τ (k + 1)) 0 && (decide (k = 0) || !(τ (k + 1)).inputs.seqReset)) = true :=
  ⟨tickRun_of_runs (by decide +kernel), tickRun_demo, rstLow_demo, by decide +kernel⟩

/-- For SynchronizerAndDeglitchResults, WaitTimerResult, WatchdogResult, TxiOperationResults and
RxiOperationResults, with and without a watchdog. -/
theorem witness_link_operations :
    (demo none []).focus = .tx ∧ ((demo none []).focusOn .rx).focus = .rx ∧
    (demo none []).inst.txi = some (txiC none) ∧ (demo none []).inst.rxi = some (rxiC none) ∧
    (txiC none).watchdog = none ∧ (txiC (some 1)).watchdog = some 1 ∧ (rxiC (some 1)).watchdog = some 1 ∧
    (demo (some 1) []).regs.txi.wd = 1 - 1 ∧ (demo (some 1) []).regs.txi.state ≠ .ready ∧
    (demo (some 1) []).regs.rxi.wd = 1 - 1 ∧ (demo (some 1) []).regs.rxi.state ≠ .ready ∧
    (demo (some 2) []).regs.txi.wd ≠ 2 - 1 ∧ (demo (some 2) []).regs.rxi.wd ≠ 2 - 1 ∧
    (withRegs (demo (some 1) []) { regs0 (some 1) with
      txi := { (regs0 (some 1)).txi with state := .ready } }).regs.txi.state = .ready ∧
    (withRegs (demo (some 1) []) { regs0 (some 1) with
      rxi := { (regs0 (some 1)).rxi with state := .ready } }).regs.rxi.state = .ready ∧
    (demo none []).inputs.drprdy = false ∧
    (applyLevels (demo none []).inputs [.drprdy true]).drprdy = true := by decide +kernel

/-- Both states of `TxiExpires` and `RxiExpires` occur. -/
theorem witness_expiry :
    TxiExpires (txiC (some 1)) (regs0 (some 1)).txi ∧ ¬ TxiExpires (txiC none) (regs0 none).txi ∧
    RxiExpires (rxiC (some 1)) (regs0 (some 1)).rxi ∧ ¬ RxiExpires (rxiC none) (regs0 none).rxi :=
  ⟨⟨by decide, 1, rfl, rfl⟩, (fun ⟨_, _, h, _⟩ => nomatch h), ⟨by decide, 1, rfl, rfl⟩, fun ⟨_, _, h, _⟩ => nomatch h⟩

theorem witness_LinkConfigOutcome :
    (Params.initial.txi.sysClkFreq < 1) ∧ (1 : ℤ) ≤ 3000000 ∧ (3000000 : ℤ) ≤ (3 : Nat) * 10 ^ 6 ∧
    (((3 : Nat) : ℤ) - 1) * 10 ^ 6 < 3000000 ∧ (3000001 : ℤ) ≤ (4 : Nat) * 10 ^ 6 ∧
    (((4 : Nat) : ℤ) - 1) * 10 ^ 6 < 3000001 := by decide

/-- For SynchronizerDelay, TimerDoneAfterFullWait, TxDwellLaw, RxDwellLaw and DrpPulsesLastOneTick. -/
theorem witness_link_run :
    TickRun 0 14 σ ∧ RstLow 0 14 σ ∧
    ((linkSlots .tx ++ linkSlots .rx).all fun p => decide (p ∈ members (σ 0) 0)) = true ∧
    (σ 0).inst.txi = some (txiC none) ∧ (σ 0).inst.rxi = some (rxiC none) ∧
    (σ 0).regs.txi.sync = ⟨⟨false, false⟩, ⟨false, false⟩⟩ ∧
    (σ 0).regs.rxi.sync = ⟨⟨false, false⟩, ⟨false, false⟩, ⟨false, false⟩, ⟨false, false⟩, ⟨false, false⟩⟩ ∧
    (σ 0).regs.txi.count = (txiC none).timerTicks ∧ (σ 0).regs.rxi.count = (rxiC none).timerTicks ∧
    (σ 0).regs.txi.state = .powerDown ∧ (σ 0).regs.rxi.state = .powerDown ∧
    (σ 4).regs.txi.state = .waitInitDelay ∧ (σ 5).regs.txi.state = .waitGtpReset ∧
    (σ 6).regs.txi.state = .ready ∧ (σ 3).regs.rxi.state = .powerDown ∧
    (σ 4).regs.rxi.state = .drpReadIssue ∧ (σ 13).regs.rxi.state = .ready ∧
    (σ 5).regs.rxi.degl.drpen = true :=
  ⟨tickRun_demo, rstLow_demo, by decide +kernel⟩

/-- For TxiEdgesComplete, RxiEdgesComplete and PmadoneCopiesSynchronizedInput. -/
theorem witness_link_edges :
    (∃ t, step (demo (some 1) [.tick 0 []]) = .next t ∧ (!rstLevel t 0) = true) ∧
    .link .tx .fsm ∈ members (demo (some 1) [.tick 0 []]) 0 ∧
    .link .rx .fsm ∈ members (demo (some 1) [.tick 0 []]) 0 :=
  ⟨exists_next (q := fun t => !rstLevel t 0) (by decide +kernel), by decide +kernel⟩

/-- For OperationsWriteOnlyTheirUnit and DrpvalueWrittenOnlyByReadWait. -/
theorem witness_operation_frames :
    (∃ t, exec .rxiDrpModWait (demo none []) = .next t ∧ true = true) ∧
    isConfiguration .rxiDrpModWait = false ∧ Instr.rxiDrpModWait ≠ .rxiDrpReadWait ∧
    operationUnit .tx .rxiDrpModWait ≠ .txi ∧ operationUnit .tx .wdogTick ≠ .rxi :=
  ⟨exists_next (q := fun _ => true) (by decide +kernel), by decide⟩

/-- In the reset partition every unit is outside of some domain that ticks. -/
theorem witness_TickLeavesOtherDomainsAlone :
    (∃ t, step { demo none [.tick 0 []] with domains := initialDomains } = .next t ∧ true = true) ∧
    .seq ∉ members { demo none [.tick 0 []] with domains := initialDomains } 0 ∧
    .nco ∉ members { demo none [.tick 1 []] with domains := initialDomains } 1 :=
  ⟨exists_next (q := fun _ => true) (by decide +kernel), by decide +kernel⟩

/-- In the reset partition the tick of the NCO's domain goes on in the same way with other registers elsewhere. -/
theorem witness_TickReadsNoOtherDomain :
    let s := { demo none [.tick 0 []] with domains := initialDomains }
    let q := { regs0 none with matcher := ⟨[true]⟩ }
    DomainsOk s.domains ∧ AgreeOn (members s 0) s.regs q ∧ s.regs ≠ q ∧
    ∃ u, step { s with regs := q } = .next u ∧ true = true := by
  refine ⟨⟨by decide +kernel, fun p => ?_⟩, ⟨fun _ => rfl, fun h => absurd h (by decide), fun _ => rfl,
    fun _ => rfl, fun _ => rfl, fun _ _ => rfl, fun _ _ => rfl⟩, by decide +kernel,
    exists_next (q := fun _ => true) (by decide +kernel)⟩
  cases p with
  | link v r => cases v <;> cases r <;> decide
  | _ => decide

theorem witness_InputLevelsHold :
    (∀ e ∈ [PortLevel.rst true], ∃ v, e = .rst v) ∧ (∀ b, .rst b ∉ [PortLevel.drprdy true]) ∧
    (∀ b, PortLevel.drprdy true ≠ .rst b) ∧
    ∃ t, step (demo none [.tick 0 [.drprdy true, .rst true]]) = .next t ∧
      decide (t.inputs.drprdy = true ∧ t.domains = [⟨allSlots, true⟩]) = true :=
  ⟨fun e h => ⟨true, by simpa using h⟩, by simp, by simp,
    exists_next (q := fun t => decide (t.inputs.drprdy = true ∧ t.domains = [⟨allSlots, true⟩]))
      (by decide +kernel)⟩

/-- R30, log entry 14: an ACQ without a matcher takes its reset values in a tick with `rst`, and stands still in
SEARCHING without it. -/
theorem test_acq_reset_without_matcher :
    let s := fun levels => { withRegs (demo none [.tick 0 levels]) { regs0 none with acq := ⟨.searching, 3, 2⟩ } with
      inst := { (demo none []).inst with matcher := none } }
    next? (step (s [.rst true])) (fun t => decide (t.regs.acq = ⟨.searching, 0, 0⟩)) = true ∧
    next? (step (s [.acqReset true])) (fun t => decide (t.regs.acq = ⟨.searching, 0, 0⟩)) = true ∧
    next? (step (s [])) (fun t => decide (t.regs.acq = ⟨.searching, 3, 2⟩)) = true := by decide +kernel

/-- R90: a configuration statement's operands reach the operation, and the other units' operands stay. -/
theorem test_step_presents_operands :
    next? (step (demo none [.configure (.acq ⟨some 4, some 3⟩)]))
      (fun t => decide (t.params.acq = ⟨some 4, some 3⟩ ∧ t.params.seq = Params.initial.seq ∧
        t.inst.acq = some ⟨⟨some 4, some 3⟩, 4, 3⟩)) = true := by decide +kernel

/-- R69: a correlator split over two domains is refused. -/
theorem test_domain_crossing_refused :
    (match step { demo none [.tick 1 []] with domains := [⟨[.matcher], false⟩, ⟨[.acq], false⟩] } with
      | .refused r => decide (r = .domainCrossing)
      | _ => false) = true := by decide +kernel

theorem witness_OutputPortsFollowRegisters :
    (demo none []).inst.nco = some ncoC ∧ seqC.gateLat = .two ∧
    ({ seqC with gateLat := .zero } : SeqConfig).gateLat = .zero := by decide +kernel

end Sys2Proof.Tests
end

section
/-! SUPPORT. What the operation of a place writes: the write is a function of the next values that the place alone
determines, so that the frame of an operation, the invariant, the independence of the evaluation order and that of
other domains are each one fact about such writes. -/

namespace Sys2Proof.Proofs

open Sys2Proof.Machine Sys2Proof.Safety

/-! ### The state diagrams of the link-training FSMs, an expiring watchdog left aside -/

/-- The state a TXI goes to (R190 to R194). -/
def txiTarget (i : Inputs) (r : TxiRegs) : TxiState → TxiState
  | .powerDown => if timerDone r.count then .waitPllReset else .powerDown
  | .waitPllReset => if r.sync.plllock.s2 then .waitInitDelay else .waitPllReset
  | .waitInitDelay => if timerDone r.count then .waitGtpReset else .waitInitDelay
  | .waitGtpReset => if r.sync.txresetdone.s2 then .ready else .waitGtpReset
  | .ready => if i.txRestart then .powerDown else .ready

/-- The state an RXI goes to (R200 to R211). -/
def rxiTarget (c : RxiConfig) (i : Inputs) (r : RxiRegs) : RxiState → RxiState
  | .powerDown => if timerDone r.count then .drpReadIssue else .powerDown
  | .drpReadIssue => .drpReadWait
  | .drpReadWait => if i.drprdy then .drpModIssue else .drpReadWait
  | .drpModIssue => .drpModWait
  | .drpModWait => if i.drprdy then .waitPmarstFall else .drpModWait
  | .waitPmarstFall => if pmarstFalls r then .drpRestoreIssue else .waitPmarstFall
  | .drpRestoreIssue => .drpRestoreWait
  | .drpRestoreWait => if i.drprdy then .waitGtpReset else .drpRestoreWait
  | .waitGtpReset =>
    if r.sync.rxresetdone.s2 then (if c.bufferEnable then .ready else .align) else .waitGtpReset
  | .align => if r.sync.rxdlysresetdone.s2 then .waitAlignDone else .align
  | .waitAlignDone => if r.sync.rxsyncdone.s2 then .ready else .waitAlignDone
  | .ready => if i.rxRestart then .powerDown else .ready

/-- The next value of `drpvalue` from the one written so far in the tick: `drpdo` where DRP_READ_WAIT sees
`drprdy` (R202). -/
def rxiCapture (i : Inputs) (v : RxiState) (drpvalue : DrpData) : DrpData :=
  if v = .drpReadWait ∧ i.drprdy = true then i.drpdo else drpvalue

theorem exec_txiOperation (v : TxiState) (s : State) :
    exec (txiOperation v) s =
      withConfig .txi s.inst.txi fun c => txiGoto s c (txiTarget s.inputs s.regs.txi v) := by
  cases v <;> rfl

theorem exec_rxiOperation (v : RxiState) (s : State) :
    exec (rxiOperation v) s =
      withConfig .rxi s.inst.rxi fun c =>
        rxiGoto (s.writeDrpvalue (rxiCapture s.inputs v s.next.rxi.drpvalue)) c
          (rxiTarget c s.inputs s.regs.rxi v) := by
  cases v
  case drpReadWait =>
    refine congrArg (withConfig .rxi s.inst.rxi) (funext fun c => ?_)
    cases h : s.inputs.drprdy with
    | false => simp [rxiTarget, rxiCapture, h]; rfl
    | true => simp [rxiTarget, rxiCapture, h]
  all_goals rfl

/-! ### The writes of the parts of a TXI or RXI -/

/-- What a part of a TXI may do to the TXI's next values. The values respect the ranges of R21, and where
the watchdog expires the FSM and the timer write what the restart writes (R185). -/
inductive TxiPartWrite (c : TxiConfig) (r : TxiRegs) : LinkPart → (TxiRegs → TxiRegs) → Prop
  | fsm (v : TxiState) (restart : txiExpires c r = true → v = .powerDown) :
      TxiPartWrite c r .fsm fun n => { n with state := v }
  | sync (v : TxiSync) : TxiPartWrite c r .sync2 fun n => { n with sync := v }
  | degl (v : TxiPorts) : TxiPartWrite c r .degl fun n => { n with degl := v }
  | timer (v : Nat) (bound : r.count ≤ c.timerTicks → v ≤ c.timerTicks)
      (restart : txiExpires c r = true → v = c.timerTicks) :
      TxiPartWrite c r .wtmr fun n => { n with count := v }
  | noWatchdog : TxiPartWrite c r .wdog id
  | watchdog (v : Nat) (bound : ∀ n, c.watchdog = some n → r.wd < n → v < n) :
      TxiPartWrite c r .wdog fun n => { n with wd := v }
  | restart (expires : txiExpires c r = true) :
      TxiPartWrite c r .wdog fun n => { n with wd := 0, state := .powerDown, count := c.timerTicks }

/-- What a part of an RXI may do to the RXI's next values, as for a TXI. -/
inductive RxiPartWrite (c : RxiConfig) (r : RxiRegs) : LinkPart → (RxiRegs → RxiRegs) → Prop
  | fsm (v : RxiState) (capture : DrpData → DrpData) (pmadone : Level)
      (restart : rxiExpires c r = true → v = .powerDown) :
      RxiPartWrite c r .fsm fun n =>
        { n with state := v, drpvalue := capture n.drpvalue, pmadoneR := pmadone }
  | sync (v : RxiSync) : RxiPartWrite c r .sync2 fun n => { n with sync := v }
  | degl (v : RxiPorts) : RxiPartWrite c r .degl fun n => { n with degl := v }
  | timer (v : Nat) (bound : r.count ≤ c.timerTicks → v ≤ c.timerTicks)
      (restart : rxiExpires c r = true → v = c.timerTicks) :
      RxiPartWrite c r .wtmr fun n => { n with count := v }
  | noWatchdog : RxiPartWrite c r .wdog id
  | watchdog (v : Nat) (bound : ∀ n, c.watchdog = some n → r.wd < n → v < n) :
      RxiPartWrite c r .wdog fun n => { n with wd := v }
  | restart (expires : rxiExpires c r = true) :
      RxiPartWrite c r .wdog fun n => { n with wd := 0, state := .powerDown, count := c.timerTicks }

section
variable {c : TxiConfig} {r n : TxiRegs} {a b : LinkPart} {f g : TxiRegs → TxiRegs}

/-- Two parts of a TXI write different registers, or, where the watchdog expires, the same values (R185). -/
theorem TxiPartWrite.comm (hf : TxiPartWrite c r a f) (hg : TxiPartWrite c r b g) (hab : a ≠ b) :
    f (g n) = g (f n) := by
  cases hf with
  | fsm v hv =>
    cases hg with
    | fsm => exact absurd rfl hab
    | restart hexp => cases hv hexp; rfl
    | _ => rfl
  | timer v _ hv =>
    cases hg with
    | timer => exact absurd rfl hab
    | restart hexp => cases hv hexp; rfl
    | _ => rfl
  | restart hexp =>
    cases hg with
    | fsm v hv => cases hv hexp; rfl
    | timer v _ hv => cases hv hexp; rfl
    | sync | degl => rfl
    | noWatchdog | watchdog | restart => exact absurd rfl hab
  | noWatchdog => rfl
  | watchdog =>
    cases hg with
    | watchdog | restart => exact absurd rfl hab
    | _ => rfl
  | sync =>
    cases hg with
    | sync => exact absurd rfl hab
    | _ => rfl
  | degl =>
    cases hg with
    | degl => exact absurd rfl hab
    | _ => rfl

theorem TxiPartWrite.keeps (hf : TxiPartWrite c r a f) (hr : TxiOk c r) (hn : TxiOk c n) : TxiOk c (f n) := by
  obtain ⟨hT, hcount, hwd⟩ := hn
  cases hf with
  | fsm | sync | degl | noWatchdog => exact ⟨hT, hcount, hwd⟩
  | timer v bound => exact ⟨hT, bound hr.countBound, hwd⟩
  | watchdog v bound => exact ⟨hT, hcount, fun n h => bound n h (hr.watchdog n h)⟩
  | restart => exact ⟨hT, le_rfl, fun n h => (Nat.zero_le _).trans_lt (hr.watchdog n h)⟩

end

section
variable {c : RxiConfig} {r n : RxiRegs} {a b : LinkPart} {f g : RxiRegs → RxiRegs}

/-- Two parts of an RXI write different registers, or, where the watchdog expires, the same values (R185). -/
theorem RxiPartWrite.comm (hf : RxiPartWrite c r a f) (hg : RxiPartWrite c r b g) (hab : a ≠ b) :
    f (g n) = g (f n) := by
  cases hf with
  | fsm v capture pmadone hv =>
    cases hg with
    | fsm => exact absurd rfl hab
    | restart hexp => cases hv hexp; rfl
    | _ => rfl
  | timer v _ hv =>
    cases hg with
    | timer => exact absurd rfl hab
    | restart hexp => cases hv hexp; rfl
    | _ => rfl
  | restart hexp =>
    cases hg with
    | fsm v capture pmadone hv => cases hv hexp; rfl
    | timer v _ hv => cases hv hexp; rfl
    | sync | degl => rfl
    | noWatchdog | watchdog | restart => exact absurd rfl hab
  | noWatchdog => rfl
  | watchdog =>
    cases hg with
    | watchdog | restart => exact absurd rfl hab
    | _ => rfl
  | sync =>
    cases hg with
    | sync => exact absurd rfl hab
    | _ => rfl
  | degl =>
    cases hg with
    | degl => exact absurd rfl hab
    | _ => rfl

theorem RxiPartWrite.keeps (hf : RxiPartWrite c r a f) (hr : RxiOk c r) (hn : RxiOk c n) : RxiOk c (f n) := by
  obtain ⟨hT, hcount, hwd⟩ := hn
  cases hf with
  | fsm | sync | degl | noWatchdog => exact ⟨hT, hcount, hwd⟩
  | timer v bound => exact ⟨hT, bound hr.countBound, hwd⟩
  | watchdog v bound => exact ⟨hT, hcount, fun n h => bound n h (hr.watchdog n h)⟩
  | restart => exact ⟨hT, le_rfl, fun n h => (Nat.zero_le _).trans_lt (hr.watchdog n h)⟩

end

/-! ### The writes of a place -/

/-- What the operation of a place may do to the next values, in a tick that starts with the instances `i` and the
registers `r`: it replaces the registers of its own unit and keeps R24. -/
inductive PlaceWrite (i : Instances) (r : Regs) : Slot → (Regs → Regs) → Prop
  | nco (c : NcoConfig) (hc : i.nco = some c) (v : NcoRegs) (keeps : NcoOk c r.nco → NcoOk c v) :
      PlaceWrite i r .nco fun n => { n with nco := v }
  | matcher (c : MatchConfig) (hc : i.matcher = some c) (v : MatchRegs)
      (keeps : MatchOk c r.matcher → MatchOk c v) :
      PlaceWrite i r .matcher fun n => { n with matcher := v }
  | acq (c : AcqConfig) (hc : i.acq = some c) (v : AcqRegs) (keeps : AcqOk c r.acq → AcqOk c v) :
      PlaceWrite i r .acq fun n => { n with acq := v }
  | cordic (c : CordicConfig) (hc : i.cordic = some c) (v : CordicRegs)
      (keeps : CordicOk c r.cordic → CordicOk c v) :
      PlaceWrite i r .cordic fun n => { n with cordic := v }
  | seq (c : SeqConfig) (hc : i.seq = some c) (v : SeqRegs) (keeps : SeqOk c r.seq → SeqOk c v) :
      PlaceWrite i r .seq fun n => { n with seq := v }
  | txi (c : TxiConfig) (hc : i.txi = some c) (a : LinkPart) (f : TxiRegs → TxiRegs)
      (hf : TxiPartWrite c r.txi a f) : PlaceWrite i r (.link .tx a) fun n => { n with txi := f n.txi }
  | rxi (c : RxiConfig) (hc : i.rxi = some c) (a : LinkPart) (f : RxiRegs → RxiRegs)
      (hf : RxiPartWrite c r.rxi a f) : PlaceWrite i r (.link .rx a) fun n => { n with rxi := f n.rxi }

/-- The configured units' registers satisfy R24: the register half of `Safety.Inv`. -/
structure RegsOk (i : Instances) (r : Regs) : Prop where
  nco : ∀ c, i.nco = some c → NcoOk c r.nco
  matcher : ∀ c, i.matcher = some c → MatchOk c r.matcher
  acq : ∀ c, i.acq = some c → AcqOk c r.acq
  cordic : ∀ c, i.cordic = some c → CordicOk c r.cordic
  seq : ∀ c, i.seq = some c → SeqOk c r.seq
  txi : ∀ c, i.txi = some c → TxiOk c r.txi
  rxi : ∀ c, i.rxi = some c → RxiOk c r.rxi

theorem inv_iff {s : State} : Inv s ↔ RegsOk s.inst s.regs ∧ DomainsOk s.domains :=
  ⟨fun ⟨h1, h2, h3, h4, h5, h6, h7, hd⟩ => ⟨⟨h1, h2, h3, h4, h5, h6, h7⟩, hd⟩,
    fun ⟨⟨h1, h2, h3, h4, h5, h6, h7⟩, hd⟩ => ⟨h1, h2, h3, h4, h5, h6, h7, hd⟩⟩

section
variable {i : Instances} {r n n' : Regs} {p q : Slot} {f g : Regs → Regs}

/-- R68 (d) for two places. -/
theorem PlaceWrite.comm (hf : PlaceWrite i r p f) (hg : PlaceWrite i r q g) (hpq : p ≠ q) :
    f (g n) = g (f n) := by
  cases hf
  case txi c hc a f hf =>
    cases hg with
    | txi c' hc' b g hg =>
      obtain rfl : c = c' := Option.some.inj (hc.symm.trans hc')
      exact congrArg (fun v => { n with txi := v }) (hf.comm hg fun h => hpq (congrArg _ h))
    | _ => rfl
  case rxi c hc a f hf =>
    cases hg with
    | rxi c' hc' b g hg =>
      obtain rfl : c = c' := Option.some.inj (hc.symm.trans hc')
      exact congrArg (fun v => { n with rxi := v }) (hf.comm hg fun h => hpq (congrArg _ h))
    | _ => rfl
  all_goals cases hg <;> first | rfl | exact absurd rfl hpq

theorem PlaceWrite.keeps (hf : PlaceWrite i r p f) (hr : RegsOk i r) (hn : RegsOk i n) : RegsOk i (f n) := by
  cases hf with
  | nco c hc v keeps =>
    exact { hn with nco := fun c' hc' => Option.some.inj (hc.symm.trans hc') ▸ keeps (hr.nco c hc) }
  | matcher c hc v keeps =>
    exact { hn with matcher := fun c' hc' => Option.some.inj (hc.symm.trans hc') ▸ keeps (hr.matcher c hc) }
  | acq c hc v keeps =>
    exact { hn with acq := fun c' hc' => Option.some.inj (hc.symm.trans hc') ▸ keeps (hr.acq c hc) }
  | cordic c hc v keeps =>
    exact { hn with cordic := fun c' hc' => Option.some.inj (hc.symm.trans hc') ▸ keeps (hr.cordic c hc) }
  | seq c hc v keeps =>
    exact { hn with seq := fun c' hc' => Option.some.inj (hc.symm.trans hc') ▸ keeps (hr.seq c hc) }
  | txi c hc a f hf =>
    exact { hn with
      txi := fun c' hc' => Option.some.inj (hc.symm.trans hc') ▸ hf.keeps (hr.txi c hc) (hn.txi c hc) }
  | rxi c hc a f hf =>
    exact { hn with
      rxi := fun c' hc' => Option.some.inj (hc.symm.trans hc') ▸ hf.keeps (hr.rxi c hc) (hn.rxi c hc) }

theorem AgreeOn.refl (l : List Slot) (r : Regs) : AgreeOn l r r :=
  ⟨fun _ => rfl, fun _ => rfl, fun _ => rfl, fun _ => rfl, fun _ => rfl, fun _ _ => rfl, fun _ _ => rfl⟩

/-- A write takes next values that agree on some places to next values that agree on them. -/
theorem PlaceWrite.agreeOn {l : List Slot} (hf : PlaceWrite i r p f) (h : AgreeOn l n n') :
    AgreeOn l (f n) (f n') := by
  cases hf with
  | nco => exact { h with nco := fun _ => rfl }
  | matcher => exact { h with matcher := fun _ => rfl }
  | acq => exact { h with acq := fun _ => rfl }
  | cordic => exact { h with cordic := fun _ => rfl }
  | seq => exact { h with seq := fun _ => rfl }
  | txi c hc a f hf => exact { h with txi := fun b hb => congrArg f (h.txi b hb) }
  | rxi c hc a f hf => exact { h with rxi := fun b hb => congrArg f (h.rxi b hb) }

/-- The unit that a place belongs to. -/
def placeUnit : Slot → ConfigUnit
  | .nco => .nco
  | .matcher => .matcher
  | .acq => .acq
  | .cordic => .cordic
  | .seq => .seq
  | .link v _ => linkUnit v

/-- The registers of every other unit than `u` are the same. -/
structure SameOutside (u : ConfigUnit) (r r' : Regs) : Prop where
  nco : u ≠ .nco → r'.nco = r.nco
  matcher : u ≠ .matcher → r'.matcher = r.matcher
  acq : u ≠ .acq → r'.acq = r.acq
  cordic : u ≠ .cordic → r'.cordic = r.cordic
  seq : u ≠ .seq → r'.seq = r.seq
  txi : u ≠ .txi → r'.txi = r.txi
  rxi : u ≠ .rxi → r'.rxi = r.rxi

theorem PlaceWrite.frame (hf : PlaceWrite i r p f) : SameOutside (placeUnit p) n (f n) := by
  cases hf <;> constructor <;> intro h <;> first | rfl | exact absurd rfl h

end

end Sys2Proof.Proofs
end

section
/-! SUPPORT. Each operation of a tick answers by one write of its place, which is the same in every state with the
same instances, levels and registers of the place. -/

namespace Sys2Proof.Proofs

open Sys2Proof.Machine Sys2Proof.Safety

/-! ### What an operation reads -/

/-- The registers that the operation of a place reads are the same: those of its unit, and for the acquisition FSM
those of its matcher too (R125, R126). -/
def SameRegs (r r' : Regs) : Slot → Prop
  | .nco => r'.nco = r.nco
  | .matcher => r'.matcher = r.matcher
  | .acq => r'.acq = r.acq ∧ r'.matcher = r.matcher
  | .cordic => r'.cordic = r.cordic
  | .seq => r'.seq = r.seq
  | .link .tx _ => r'.txi = r.txi
  | .link .rx _ => r'.rxi = r.rxi

theorem SameRegs.refl (r : Regs) (p : Slot) : SameRegs r r p := by
  cases p with
  | link v a => cases v <;> rfl
  | acq => exact ⟨rfl, rfl⟩
  | _ => rfl

/-- The operation of a place sees the same in two states. -/
structure SameReads (p : Slot) (s s' : State) : Prop where
  inst : s'.inst = s.inst
  inputs : s'.inputs = s.inputs
  regs : SameRegs s.regs s'.regs p
  focus : ∀ v a, p = .link v a → s'.focus = s.focus

theorem SameReads.refl (p : Slot) (s : State) : SameReads p s s := ⟨rfl, rfl, SameRegs.refl _ _, fun _ _ _ => rfl⟩

/-- The operation answers by a write of the place `p`, in every state in which it reads what it reads in `s`. -/
def Writes (p : Slot) (s : State) (op : State → Result) : Prop :=
  ∃ f, PlaceWrite s.inst s.regs p f ∧ ∀ s', SameReads p s s' → op s' = .next { s' with next := f s'.next }

/-! ### One unit after the other -/

section
variable {s t : State}

theorem execNcoTick_writes (h : execNcoTick s = .next t) : Writes .nco s execNcoTick := by
  simp only [execNcoTick, withConfig_eq_next_iff, withWord_eq_next_iff] at h
  obtain ⟨c, hc, w, hw, -⟩ := h
  refine ⟨_, .nco c hc ⟨ncoNextIndex c s.regs.nco.index, w⟩ fun ok => ?_, fun s' hs => ?_⟩
  · have hindex := ok.indexBound
    refine { ok with
      indexBound := ?_
      outBound := ok.wordBound w (List.mem_of_getElem? hw) }
    simp only [ncoNextIndex]
    split <;> omega
  · have hr : s'.regs.nco = s.regs.nco := hs.regs
    simp [execNcoTick, hs.inst, hc, hr, withWord, memRead, hw, State.writeNco]

theorem execMatchShift_writes (h : execMatchShift s = .next t) : Writes .matcher s execMatchShift := by
  simp only [execMatchShift, withConfig_eq_next_iff] at h
  obtain ⟨c, hc, -⟩ := h
  refine ⟨_, .matcher c hc ⟨s.regs.matcher.hist.drop 1 ++ [s.inputs.matchInput]⟩ fun ok => ?_, fun s' hs => ?_⟩
  · have hlen := ok.histLength
    exact { ok with histLength := by simp only [List.length_append, List.length_drop, List.length_singleton]; omega }
  · have hr : s'.regs.matcher = s.regs.matcher := hs.regs
    simp [execMatchShift, hs.inst, hc, hr, hs.inputs, State.writeMatch]

theorem execAcqClr_writes {st : BitVec 4} (h : execAcqClr st s = .next t) : Writes .acq s (execAcqClr st) := by
  simp only [execAcqClr, withConfig_eq_next_iff] at h
  obtain ⟨c, hc, -⟩ := h
  refine ⟨_, .acq c hc ⟨.searching, 0, 0⟩ fun ok => ?_, fun s' hs => ?_⟩
  · exact { ok with eyeWidthBound := Nat.two_pow_pos _, counterBound := Nat.two_pow_pos _ }
  · simp [execAcqClr, hs.inst, hc, State.writeAcq]

theorem execAcqSearch_writes (h : execAcqSearch s = .next t) : Writes .acq s execAcqSearch := by
  simp only [execAcqSearch, withMatch_eq_next_iff] at h
  obtain ⟨c, m, hc, hm, -⟩ := h
  refine ⟨_, .acq c hc
    ⟨if matchFlag m s.regs.matcher then .measuring else .searching, 0, s.regs.acq.counter⟩ fun ok => ?_,
    fun s' hs => ?_⟩
  · exact { ok with eyeWidthBound := Nat.two_pow_pos _ }
  · obtain ⟨hr, hr'⟩ : s'.regs.acq = s.regs.acq ∧ s'.regs.matcher = s.regs.matcher := hs.regs
    simp [execAcqSearch, withMatch, hs.inst, hc, hm, hr, hr', State.writeAcq]

theorem execAcqMeasure_writes (h : execAcqMeasure s = .next t) : Writes .acq s execAcqMeasure := by
  simp only [execAcqMeasure, withMatch_eq_next_iff] at h
  obtain ⟨c, m, hc, hm, -⟩ := h
  have hmod : ∀ v, v % 2 ^ c.cntBits < 2 ^ c.cntBits := fun v => Nat.mod_lt _ (Nat.two_pow_pos _)
  cases hfound : matchFlag m s.regs.matcher with
  | true =>
    refine ⟨_, .acq c hc ⟨.measuring, (s.regs.acq.eyeWidth + 1) % 2 ^ c.cntBits, s.regs.acq.counter⟩
      fun ok => { ok with eyeWidthBound := hmod _ }, fun s' hs => ?_⟩
    obtain ⟨hr, hr'⟩ : s'.regs.acq = s.regs.acq ∧ s'.regs.matcher = s.regs.matcher := hs.regs
    simp [execAcqMeasure, withMatch, hs.inst, hc, hm, hr, hr', hfound, State.writeAcq]
  | false =>
    refine ⟨_, .acq c hc ⟨.sampling, s.regs.acq.eyeWidth, acqCounterLoad c s.regs.acq.eyeWidth⟩
      fun ok => { ok with counterBound := hmod _ }, fun s' hs => ?_⟩
    obtain ⟨hr, hr'⟩ : s'.regs.acq = s.regs.acq ∧ s'.regs.matcher = s.regs.matcher := hs.regs
    simp [execAcqMeasure, withMatch, hs.inst, hc, hm, hr, hr', hfound, State.writeAcq]

theorem execAcqSample_writes (h : execAcqSample s = .next t) : Writes .acq s execAcqSample := by
  simp only [execAcqSample, withConfig_eq_next_iff] at h
  obtain ⟨c, hc, -⟩ := h
  refine ⟨_, .acq c hc ⟨.sampling, s.regs.acq.eyeWidth,
      if s.regs.acq.counter = c.sps - 1 then 0 else (s.regs.acq.counter + 1) % 2 ^ c.cntBits⟩ fun ok => ?_,
    fun s' hs => ?_⟩
  · refine { ok with counterBound := ?_ }
    dsimp only
    split
    · exact Nat.two_pow_pos _
    · exact Nat.mod_lt _ (Nat.two_pow_pos _)
  · have hr : s'.regs.acq = s.regs.acq := hs.regs.1
    simp [execAcqSample, hs.inst, hc, hr, State.writeAcq]

theorem length_cordicIterFrom (first : Nat) (ds : List ℤ) (rs : List Rank) :
    (cordicIterFrom first ds rs).length = min ds.length rs.length := by
  induction ds generalizing first rs with
  | nil => simp [cordicIterFrom]
  | cons d ds ih => cases rs <;> simp [cordicIterFrom, ih]

theorem execCordicTick_writes (h : execCordicTick s = .next t) : Writes .cordic s execCordicTick := by
  simp only [execCordicTick, withConfig_eq_next_iff] at h
  obtain ⟨c, hc, h⟩ := h
  cases hlast : s.regs.cordic.ranks[c.stages]? with
  | none => simp [hlast] at h
  | some last =>
    refine ⟨_, .cordic c hc
      ⟨cordicNextRanks c s.inputs s.regs.cordic.ranks, last.x, cordicFinalAngle c last⟩ fun ok => ?_,
      fun s' hs => ?_⟩
    · refine { ok with ranks := ?_ }
      simp [cordicNextRanks, length_cordicIterFrom, ok.deltas, ok.ranks]
    · have hr : s'.regs.cordic = s.regs.cordic := hs.regs
      simp [execCordicTick, hs.inst, hc, hr, hlast, hs.inputs, State.writeCordic]

end

/-! ### The sequencer -/

section
variable {c : SeqConfig} {s t : State}

/-- The registers that `SEQ.RUN` and `SEQ.IDLE` leave satisfy R24, if the counters they go on with do. -/
theorem SeqOk.pipeline {r : SeqRegs} (ok : SeqOk c r) {i j sym w : Nat} {d : Bool}
    (hsym : c.packet[r.symbolIndex]? = some sym) (hw : c.table[seqTableAddress c r]? = some w)
    (hi : i < c.packet.length) (hj : j < c.wps) (hd : d = true → i = 0 ∧ j = 0) :
    SeqOk c ⟨i, j, r.sampleIndex, sym, w, d, r.done, r.doneD1⟩ :=
  { ok with
    symbolIndex := hi
    sampleIndex := hj
    lastSampleIndex := ok.sampleIndex
    symReg := .inl (List.mem_of_getElem? hsym)
    outBound := ok.wordBound w (List.mem_of_getElem? hw)
    frozen := hd }

/-- An operation that runs the lookup pipeline writes as one, where its counters stay in range. -/
theorem seqPipeline_writes {op : State → Result} (hc : s.inst.seq = some c) {i j : Nat} {d : Bool}
    (h : seqPipeline c s i j d = .next t)
    (hop : ∀ s', SameReads .seq s s' → op s' = seqPipeline c s' i j d)
    (hi : SeqOk c s.regs.seq → i < c.packet.length) (hj : SeqOk c s.regs.seq → j < c.wps)
    (hd : d = true → i = 0 ∧ j = 0) : Writes .seq s op := by
  obtain ⟨sym, w, hsym, hw, -⟩ := seqPipeline_eq_next_iff.mp h
  refine ⟨_, .seq c hc ⟨i, j, s.regs.seq.sampleIndex, sym, w, d, s.regs.seq.done, s.regs.seq.doneD1⟩
    fun ok => SeqOk.pipeline ok hsym hw (hi ok) (hj ok) hd, fun s' hs => ?_⟩
  have hr : s'.regs.seq = s.regs.seq := hs.regs
  exact (hop s' hs).trans (seqPipeline_eq_next_iff.mpr ⟨sym, w, hr ▸ hsym, hr ▸ hw, by rw [hr]; rfl⟩)

theorem execSeqIdle_writes (h : execSeqIdle s = .next t) : Writes .seq s execSeqIdle := by
  obtain ⟨c, hc, h⟩ := withConfig_eq_next_iff.mp h
  exact seqPipeline_writes hc h (fun s' hs => by simp [execSeqIdle, hs.inst, hc]) (fun ok => ok.packetPos)
    (fun ok => ok.wpsPos) fun _ => ⟨rfl, rfl⟩

theorem seqWindowEnds_iff {r : SeqRegs} : seqWindowEnds c r = true ↔ r.sampleIndex = c.wps - 1 := decide_eq_true_iff

theorem seqLastSymbol_iff {r : SeqRegs} : seqLastSymbol c r = true ↔ r.symbolIndex = c.packet.length - 1 :=
  decide_eq_true_iff

theorem execSeqRun_eq (hc : s.inst.seq = some c) :
    execSeqRun s =
      if seqWindowEnds c s.regs.seq then
        if seqLastSymbol c s.regs.seq then seqPipeline c s 0 0 true
        else seqPipeline c s (s.regs.seq.symbolIndex + 1) 0 false
      else seqPipeline c s s.regs.seq.symbolIndex (s.regs.seq.sampleIndex + 1) false := by
  rw [execSeqRun, hc, withConfig_some]

theorem execSeqRun_writes (h : execSeqRun s = .next t) : Writes .seq s execSeqRun := by
  obtain ⟨c, hc, h⟩ := withConfig_eq_next_iff.mp h
  have hrun : ∀ s', SameReads .seq s s' → execSeqRun s' =
      if seqWindowEnds c s.regs.seq then
        if seqLastSymbol c s.regs.seq then seqPipeline c s' 0 0 true
        else seqPipeline c s' (s.regs.seq.symbolIndex + 1) 0 false
      else seqPipeline c s' s.regs.seq.symbolIndex (s.regs.seq.sampleIndex + 1) false := fun s' hs => by
    have hr : s'.regs.seq = s.regs.seq := hs.regs
    rw [execSeqRun_eq (hs.inst ▸ hc), hr]
  split at h
  case isTrue hend =>
    split at h
    case isTrue hlast =>
      exact seqPipeline_writes hc h (fun s' hs => by rw [hrun s' hs, if_pos hend, if_pos hlast])
        (fun ok => ok.packetPos) (fun ok => ok.wpsPos) fun _ => ⟨rfl, rfl⟩
    case isFalse hlast =>
      refine seqPipeline_writes hc h (fun s' hs => by rw [hrun s' hs, if_pos hend, if_neg hlast])
        (fun ok => ?_) (fun ok => ok.wpsPos) (by simp)
      have hbound := ok.symbolIndex
      rw [seqLastSymbol_iff] at hlast
      omega
  case isFalse hend =>
    refine seqPipeline_writes hc h (fun s' hs => by rw [hrun s' hs, if_neg hend]) (fun ok => ok.symbolIndex)
      (fun ok => ?_) (by simp)
    have hbound := ok.sampleIndex
    rw [seqWindowEnds_iff] at hend
    omega

theorem seqResetRegs_ok {r : SeqRegs} (ok : SeqOk c r) : SeqOk c seqResetRegs :=
  { ok with
    symbolIndex := ok.packetPos
    sampleIndex := ok.wpsPos
    lastSampleIndex := ok.wpsPos
    symReg := .inr rfl
    outBound := Nat.two_pow_pos _
    frozen := fun h => nomatch h }

theorem execSeqClr_writes {st : BitVec 4} (h : execSeqClr st s = .next t) : Writes .seq s (execSeqClr st) := by
  obtain ⟨c, hc, -⟩ := withConfig_eq_next_iff.mp h
  exact ⟨_, .seq c hc seqResetRegs seqResetRegs_ok, fun s' hs => by
    simp [execSeqClr, hs.inst, hc, State.writeSeq, seqResetRegs]⟩

end

/-! ### Link training -/

section
variable {s t : State}

theorem exec_txiOperation_writes {v : TxiState} (h : exec (txiOperation v) s = .next t) :
    Writes (.link .tx .fsm) s (exec (txiOperation v)) := by
  rw [exec_txiOperation, withConfig_eq_next_iff] at h
  obtain ⟨c, hc, -⟩ := h
  refine ⟨_, .txi c hc .fsm _ (.fsm
    (if txiExpires c s.regs.txi then .powerDown else txiTarget s.inputs s.regs.txi v) fun h => if_pos h),
    fun s' hs => ?_⟩
  have hr : s'.regs.txi = s.regs.txi := hs.regs
  refine (exec_txiOperation v s').trans (withConfig_eq_next_iff.mpr ⟨c, hs.inst ▸ hc, ?_⟩)
  exact txiGoto_eq_next_iff.mpr (by rw [← hr, ← hs.inputs]; rfl)

theorem exec_rxiOperation_writes {v : RxiState} (h : exec (rxiOperation v) s = .next t) :
    Writes (.link .rx .fsm) s (exec (rxiOperation v)) := by
  rw [exec_rxiOperation, withConfig_eq_next_iff] at h
  obtain ⟨c, hc, -⟩ := h
  refine ⟨_, .rxi c hc .fsm _ (.fsm
    (if rxiExpires c s.regs.rxi then .powerDown else rxiTarget c s.inputs s.regs.rxi v)
    (rxiCapture s.inputs v) s.regs.rxi.sync.rxpmaresetdone.s2 fun h => if_pos h), fun s' hs => ?_⟩
  have hr : s'.regs.rxi = s.regs.rxi := hs.regs
  refine (exec_rxiOperation v s').trans (withConfig_eq_next_iff.mpr ⟨c, hs.inst ▸ hc, ?_⟩)
  exact rxiGoto_eq_next_iff.mpr (by rw [← hr, ← hs.inputs]; rfl)

/-- An operation of a primitive writes what it writes for the TXI or RXI in focus. -/
theorem withLink_writes {u : UnitCode} {a : LinkPart} {tx : State → TxiConfig → Result}
    {rx : State → RxiConfig → Result}
    (htx : ∀ c, s.inst.txi = some c → Writes (.link .tx a) s (tx · c))
    (hrx : ∀ c, s.inst.rxi = some c → Writes (.link .rx a) s (rx · c))
    (h : withLink u s (tx s) (rx s) = .next t) :
    Writes (.link s.focus a) s fun s' => withLink u s' (tx s') (rx s') := by
  rcases withLink_eq_next_iff.mp h with ⟨hfocus, c, hc, -⟩ | ⟨hfocus, c, hc, -⟩
  · obtain ⟨f, hf, hrun⟩ := htx c hc
    rw [hfocus]
    exact ⟨f, hf, fun s' hs => by
      simpa [withLink, hs.focus _ _ rfl, hfocus, hs.inst, hc] using hrun s' hs⟩
  · obtain ⟨f, hf, hrun⟩ := hrx c hc
    rw [hfocus]
    exact ⟨f, hf, fun s' hs => by
      simpa [withLink, hs.focus _ _ rfl, hfocus, hs.inst, hc] using hrun s' hs⟩

theorem execSync2Tick_writes (h : execSync2Tick s = .next t) :
    Writes (.link s.focus .sync2) s execSync2Tick := by
  refine withLink_writes (fun c hc => ?_) (fun c hc => ?_) h
  · refine ⟨_, .txi c hc .sync2 _ (.sync (txiSyncShift s.inputs s.regs.txi.sync)), fun s' hs => ?_⟩
    have hr : s'.regs.txi = s.regs.txi := hs.regs
    simp [hr, hs.inputs, State.writeTxiSync]
  · refine ⟨_, .rxi c hc .sync2 _ (.sync (rxiSyncShift s.inputs s.regs.rxi.sync)), fun s' hs => ?_⟩
    have hr : s'.regs.rxi = s.regs.rxi := hs.regs
    simp [hr, hs.inputs, State.writeRxiSync]

theorem execDeglTick_writes (h : execDeglTick s = .next t) : Writes (.link s.focus .degl) s execDeglTick := by
  refine withLink_writes (fun c hc => ?_) (fun c hc => ?_) h
  · refine ⟨_, .txi c hc .degl _ (.degl (txiControls s.regs.txi.state)), fun s' hs => ?_⟩
    have hr : s'.regs.txi = s.regs.txi := hs.regs
    simp [hr, State.writeTxiDegl]
  · refine ⟨_, .rxi c hc .degl _ (.degl (rxiControls c s.regs.rxi)), fun s' hs => ?_⟩
    have hr : s'.regs.rxi = s.regs.rxi := hs.regs
    simp [hr, State.writeRxiDegl]

/-- `count` stays in `[0, T]` (R21, R183). -/
theorem timerNext_le {wait : Level} {t count : Nat} (h : count ≤ t) : timerNext wait t count ≤ t := by
  unfold timerNext
  split <;> omega

theorem execWtmrTick_writes (h : execWtmrTick s = .next t) : Writes (.link s.focus .wtmr) s execWtmrTick := by
  refine withLink_writes (fun c hc => ?_) (fun c hc => ?_) h
  · refine ⟨_, .txi c hc .wtmr _ (.timer (if txiExpires c s.regs.txi then c.timerTicks
      else timerNext (txiWait s.regs.txi) c.timerTicks s.regs.txi.count) (fun hb => ?_) fun h => if_pos h),
      fun s' hs => ?_⟩
    · split
      · exact le_rfl
      · exact timerNext_le hb
    · have hr : s'.regs.txi = s.regs.txi := hs.regs
      simp [hr, State.writeTxiCount]
  · refine ⟨_, .rxi c hc .wtmr _ (.timer (if rxiExpires c s.regs.rxi then c.timerTicks
      else timerNext (rxiWait s.regs.rxi) c.timerTicks s.regs.rxi.count) (fun hb => ?_) fun h => if_pos h),
      fun s' hs => ?_⟩
    · split
      · exact le_rfl
      · exact timerNext_le hb
    · have hr : s'.regs.rxi = s.regs.rxi := hs.regs
      simp [hr, State.writeRxiCount]

theorem txiWatchdog_writes {c : TxiConfig} (hc : s.inst.txi = some c) :
    Writes (.link .tx .wdog) s fun s' => .next (txiWatchdog s' c) := by
  have hreads : ∀ s', SameReads (.link .tx .wdog) s s' → s'.regs.txi = s.regs.txi := fun s' hs => hs.regs
  cases hw : c.watchdog with
  | none => exact ⟨_, .txi c hc .wdog _ .noWatchdog, fun s' _ => by simp [txiWatchdog, hw]⟩
  | some n =>
    by_cases hready : txiDone s.regs.txi = true
    · exact ⟨_, .txi c hc .wdog _ (.watchdog 0 fun _ _ => Nat.zero_lt_of_lt), fun s' hs => by
        simp [txiWatchdog, hw, hreads s' hs, hready, State.writeTxiWd]⟩
    by_cases hexp : txiExpires c s.regs.txi = true
    · exact ⟨_, .txi c hc .wdog _ (.restart hexp), fun s' hs => by
        simp [txiWatchdog, hw, hreads s' hs, hready, hexp, State.writeTxiWd, State.writeTxiState,
          State.writeTxiCount]⟩
    · refine ⟨_, .txi c hc .wdog _ (.watchdog (s.regs.txi.wd + 1) fun m hm hlt => ?_), fun s' hs => by
        simp [txiWatchdog, hw, hreads s' hs, hready, hexp, State.writeTxiWd]⟩
      simp [txiExpires, watchdogExpires, hm, hready] at hexp
      omega

theorem rxiWatchdog_writes {c : RxiConfig} (hc : s.inst.rxi = some c) :
    Writes (.link .rx .wdog) s fun s' => .next (rxiWatchdog s' c) := by
  have hreads : ∀ s', SameReads (.link .rx .wdog) s s' → s'.regs.rxi = s.regs.rxi := fun s' hs => hs.regs
  cases hw : c.watchdog with
  | none => exact ⟨_, .rxi c hc .wdog _ .noWatchdog, fun s' _ => by simp [rxiWatchdog, hw]⟩
  | some n =>
    by_cases hready : rxiDone s.regs.rxi = true
    · exact ⟨_, .rxi c hc .wdog _ (.watchdog 0 fun _ _ => Nat.zero_lt_of_lt), fun s' hs => by
        simp [rxiWatchdog, hw, hreads s' hs, hready, State.writeRxiWd]⟩
    by_cases hexp : rxiExpires c s.regs.rxi = true
    · exact ⟨_, .rxi c hc .wdog _ (.restart hexp), fun s' hs => by
        simp [rxiWatchdog, hw, hreads s' hs, hready, hexp, State.writeRxiWd, State.writeRxiState,
          State.writeRxiCount]⟩
    · refine ⟨_, .rxi c hc .wdog _ (.watchdog (s.regs.rxi.wd + 1) fun m hm hlt => ?_), fun s' hs => by
        simp [rxiWatchdog, hw, hreads s' hs, hready, hexp, State.writeRxiWd]⟩
      simp [rxiExpires, watchdogExpires, hm, hready] at hexp
      omega

theorem execWdogTick_writes (h : execWdogTick s = .next t) : Writes (.link s.focus .wdog) s execWdogTick :=
  withLink_writes (tx := fun s c => .next (txiWatchdog s c)) (rx := fun s c => .next (rxiWatchdog s c))
    (fun _ hc => txiWatchdog_writes hc) (fun _ hc => rxiWatchdog_writes hc) h

end

end Sys2Proof.Proofs
end

section
/-! SUPPORT. From operations to ticks: the word a place forms is decoded to the operation of R86, each operation
writes as its place may, and what that gives for the places of a tick run one after the other. -/

namespace Sys2Proof.Proofs

open Sys2Proof.Machine Sys2Proof.Safety

/-! ### The word of a place (R81, R86) -/

section
variable (u : BitVec 4) (rst clr : Level) (st : BitVec 4)

theorem getLsbD_selWord (k : Nat) : (selWord u rst clr st).getLsbD k =
    if k < 4 then st.getLsbD k
    else if k < 10 then false
    else if k = 10 then clr
    else if k = 11 then rst
    else u.getLsbD (k - 12) := by
  change BitVec.getLsbD (w := 4 + 1 + 1 + 6 + 4) (u ++ BitVec.ofBool rst ++ BitVec.ofBool clr ++ 0#6 ++ st) k = _
  simp only [BitVec.getLsbD_append, BitVec.getLsbD_ofBool, BitVec.getLsbD_zero, Nat.sub_sub]
  split_ifs <;> (try omega) <;> simp_all

@[simp] theorem unitField_selWord : (selWord u rst clr st).unitField = u := by
  apply BitVec.eq_of_getLsbD_eq
  intro i hi
  simp only [SelWord.unitField, BitVec.getLsbD_extractLsb', getLsbD_selWord, hi, decide_true, Bool.true_and]
  rw [if_neg (by omega), if_neg (by omega), if_neg (by omega), if_neg (by omega), Nat.add_sub_cancel_left]

@[simp] theorem zeroField_selWord : (selWord u rst clr st).zeroField = 0 := by
  apply BitVec.eq_of_getLsbD_eq
  intro i hi
  simp only [SelWord.zeroField, BitVec.getLsbD_extractLsb', getLsbD_selWord, hi, decide_true, Bool.true_and]
  rw [if_neg (by omega), if_pos (by omega), BitVec.ofNat_eq_ofNat, BitVec.getLsbD_zero]

@[simp] theorem stField_selWord : (selWord u rst clr st).stField = st := by
  apply BitVec.eq_of_getLsbD_eq
  intro i hi
  simp only [SelWord.stField, BitVec.getLsbD_extractLsb', getLsbD_selWord, hi, decide_true, Bool.true_and, zero_add,
    if_true]

@[simp] theorem rstField_selWord : (selWord u rst clr st).rstField = rst := by
  simp only [SelWord.rstField, getLsbD_selWord]
  rfl

@[simp] theorem clrField_selWord : (selWord u rst clr st).clrField = clr := by
  simp only [SelWord.clrField, getLsbD_selWord]
  rfl

end

theorem decode_selWord (u : UnitCode) (rst clr : Level) (st : BitVec 4) :
    decode (selWord u.code rst clr st) = decodeTick u rst clr st := by
  have hcode : u.code ≠ cfgCode := by cases u <;> decide
  have hunit : UnitCode.ofCode? u.code = some u := by cases u <;> rfl
  simp [decode, hcode, hunit]

/-- The decoder reads the operation of R86 off the place's registers and levels, which spell no word that R87
reserves. -/
theorem decodeTick_slot (s : State) (rst : Level) (p : Slot) :
    decodeTick (slotUnit p) rst (slotClr s p) (slotCode s p) = .ok (slotOperation s rst p) := by
  simp only [slotOperation]
  cases p with
  | nco | matcher | cordic => cases rst <;> rfl
  | acq =>
    simp only [slotUnit, slotClr, slotCode, runningOperation]
    cases rst <;> cases s.inputs.acqReset <;> cases s.regs.acq.state <;> rfl
  | seq =>
    simp only [slotUnit, slotClr, slotCode, runningOperation]
    cases rst <;> cases s.inputs.seqReset <;> cases s.regs.seq.done <;> rfl
  | link v a =>
    cases a with
    | fsm =>
      cases v <;> simp only [slotUnit, slotClr, slotCode, runningOperation] <;> cases rst
      case tx.false | tx.true => cases s.regs.txi.state <;> rfl
      case rx.false | rx.true => cases s.regs.rxi.state <;> rfl
    | _ => cases v <;> cases rst <;> rfl

theorem decode_selector (s : State) (rst : Level) (p : Slot) :
    decode (s.selector rst p) = .ok (slotOperation s rst p) :=
  (decode_selWord _ _ _ _).trans (decodeTick_slot s rst p)

theorem runSlot_eq_exec (rst : Level) (p : Slot) (s : State) :
    runSlot rst p s = exec (slotOperation s rst p) (s.focusSlot p) := by
  simp only [runSlot, runWord, decode_selector]

/-! ### Every operation of a tick writes as its place may -/

/-- The place of a unit, a primitive's being one of the TXI or RXI in focus. -/
def unitPlace (focus : LinkVariant) : UnitCode → Slot
  | .nco => .nco
  | .matcher => .matcher
  | .acq => .acq
  | .cordic => .cordic
  | .seq => .seq
  | .sync2 => .link focus .sync2
  | .degl => .link focus .degl
  | .wtmr => .link focus .wtmr
  | .wdog => .link focus .wdog
  | .txi => .link .tx .fsm
  | .rxi => .link .rx .fsm

/-- The ticking unit that performs an operation. -/
def operationUnitCode : Instr → UnitCode
  | .rst u _ => u
  | .sync2Tick => .sync2
  | .deglTick => .degl
  | .wtmrTick => .wtmr
  | .wdogTick => .wdog
  | i =>
    match operationUnit .tx i with
    | .nco => .nco
    | .matcher => .matcher
    | .acq => .acq
    | .cordic => .cordic
    | .seq => .seq
    | .txi => .txi
    | .rxi => .rxi

/-- The place at which an operation is performed. -/
def operationPlace (focus : LinkVariant) (i : Instr) : Slot := unitPlace focus (operationUnitCode i)

theorem placeUnit_operationPlace (focus : LinkVariant) (i : Instr) :
    placeUnit (operationPlace focus i) = operationUnit focus i := by
  cases i with
  | rst u x => cases u <;> rfl
  | _ => rfl

/-- A place runs its own operations, none of them a configuration operation (R15). -/
theorem operationPlace_slotOperation (s : State) (rst : Level) (p : Slot) :
    operationPlace (s.focusSlot p).focus (slotOperation s rst p) = p ∧
      isConfiguration (slotOperation s rst p) = false := by
  simp only [slotOperation]
  cases p with
  | nco | matcher | cordic => cases rst <;> exact ⟨rfl, rfl⟩
  | acq =>
    simp only [runningOperation]
    cases rst <;> cases s.inputs.acqReset <;> cases s.regs.acq.state <;> exact ⟨rfl, rfl⟩
  | seq =>
    simp only [runningOperation]
    cases rst <;> cases s.inputs.seqReset <;> cases s.regs.seq.done <;> exact ⟨rfl, rfl⟩
  | link v a =>
    cases a with
    | fsm =>
      cases v <;> simp only [runningOperation] <;> cases rst
      case tx.false | tx.true => cases s.regs.txi.state <;> exact ⟨rfl, rfl⟩
      case rx.false | rx.true => cases s.regs.rxi.state <;> exact ⟨rfl, rfl⟩
    | _ => cases v <;> cases rst <;> exact ⟨rfl, rfl⟩

section
variable {s t : State} {u : UnitCode} {x : RstFields} {i : Instr}

theorem execRst_writes (h : execRst u x s = .next t) : Writes (unitPlace s.focus u) s (execRst u x) := by
  cases u with
  | nco =>
    obtain ⟨c, hc, -⟩ := withConfig_eq_next_iff.mp h
    exact ⟨_, .nco c hc ncoResetRegs fun ok =>
      { ok with indexBound := ok.wordsPos, outBound := Nat.two_pow_pos _ },
      fun s' hs => by simp [execRst, hs.inst, hc, State.writeNco]⟩
  | matcher =>
    obtain ⟨c, hc, -⟩ := withConfig_eq_next_iff.mp h
    exact ⟨_, .matcher c hc (matchResetRegs c) fun ok =>
      { ok with histLength := by simp [matchResetRegs, Machine.histLength] },
      fun s' hs => by simp [execRst, hs.inst, hc, State.writeMatch]⟩
  | acq =>
    obtain ⟨c, hc, -⟩ := withConfig_eq_next_iff.mp h
    exact ⟨_, .acq c hc acqResetRegs fun ok =>
      { ok with eyeWidthBound := Nat.two_pow_pos _, counterBound := Nat.two_pow_pos _ },
      fun s' hs => by simp [execRst, hs.inst, hc, State.writeAcq]⟩
  | cordic =>
    obtain ⟨c, hc, -⟩ := withConfig_eq_next_iff.mp h
    exact ⟨_, .cordic c hc (cordicResetRegs c) fun ok => { ok with ranks := by simp [cordicResetRegs] },
      fun s' hs => by simp [execRst, hs.inst, hc, State.writeCordic]⟩
  | seq =>
    obtain ⟨c, hc, -⟩ := withConfig_eq_next_iff.mp h
    exact ⟨_, .seq c hc seqResetRegs seqResetRegs_ok,
      fun s' hs => by simp [execRst, hs.inst, hc, State.writeSeq]⟩
  | sync2 =>
    refine withLink_writes (fun c hc => ?_) (fun c hc => ?_) h
    · exact ⟨_, .txi c hc .sync2 _ (.sync txiSyncReset), fun _ _ => rfl⟩
    · exact ⟨_, .rxi c hc .sync2 _ (.sync rxiSyncReset), fun _ _ => rfl⟩
  | degl =>
    refine withLink_writes (fun c hc => ?_) (fun c hc => ?_) h
    · exact ⟨_, .txi c hc .degl _ (.degl txiDeglReset), fun _ _ => rfl⟩
    · exact ⟨_, .rxi c hc .degl _ (.degl rxiDeglReset), fun _ _ => rfl⟩
  | wtmr =>
    refine withLink_writes (tx := fun s c => .next (s.writeTxiCount c.timerTicks))
      (rx := fun s c => .next (s.writeRxiCount c.timerTicks)) (fun c hc => ?_) (fun c hc => ?_) h
    · exact ⟨_, .txi c hc .wtmr _ (.timer c.timerTicks (fun _ => le_rfl) fun _ => rfl), fun _ _ => rfl⟩
    · exact ⟨_, .rxi c hc .wtmr _ (.timer c.timerTicks (fun _ => le_rfl) fun _ => rfl), fun _ _ => rfl⟩
  | wdog =>
    refine withLink_writes (fun c hc => ?_) (fun c hc => ?_) h
    · exact ⟨_, .txi c hc .wdog _ (.watchdog 0 fun _ _ => Nat.zero_lt_of_lt), fun _ _ => rfl⟩
    · exact ⟨_, .rxi c hc .wdog _ (.watchdog 0 fun _ _ => Nat.zero_lt_of_lt), fun _ _ => rfl⟩
  | txi =>
    obtain ⟨c, hc, -⟩ := withConfig_eq_next_iff.mp h
    exact ⟨_, .txi c hc .fsm _ (.fsm .powerDown fun _ => rfl),
      fun s' hs => by simp [execRst, hs.inst, hc, State.writeTxiState]⟩
  | rxi =>
    obtain ⟨c, hc, -⟩ := withConfig_eq_next_iff.mp h
    exact ⟨_, .rxi c hc .fsm _ (.fsm .powerDown (fun _ => 0) false fun _ => rfl),
      fun s' hs => by
        simp [execRst, hs.inst, hc, State.writeRxiState, State.writeDrpvalue, State.writePmadone]⟩

/-- Everything an operation of a tick can do: one write of its own place, the same wherever it reads the same. -/
theorem exec_writes (hi : isConfiguration i = false) (h : exec i s = .next t) :
    Writes (operationPlace s.focus i) s (exec i) := by
  cases i with
  | rst u x => exact execRst_writes (x := x) h
  | ncoTick => exact execNcoTick_writes h
  | matchShift => exact execMatchShift_writes h
  | acqClr st => exact execAcqClr_writes (st := st) h
  | acqSearch => exact execAcqSearch_writes h
  | acqMeasure => exact execAcqMeasure_writes h
  | acqSample => exact execAcqSample_writes h
  | cordicTick => exact execCordicTick_writes h
  | seqClr st => exact execSeqClr_writes (st := st) h
  | seqRun => exact execSeqRun_writes h
  | seqIdle => exact execSeqIdle_writes h
  | sync2Tick => exact execSync2Tick_writes h
  | deglTick => exact execDeglTick_writes h
  | wtmrTick => exact execWtmrTick_writes h
  | wdogTick => exact execWdogTick_writes h
  | txiPowerDown => exact exec_txiOperation_writes (v := .powerDown) h
  | txiWaitPllReset => exact exec_txiOperation_writes (v := .waitPllReset) h
  | txiWaitInitDelay => exact exec_txiOperation_writes (v := .waitInitDelay) h
  | txiWaitGtpReset => exact exec_txiOperation_writes (v := .waitGtpReset) h
  | txiReady => exact exec_txiOperation_writes (v := .ready) h
  | rxiPowerDown => exact exec_rxiOperation_writes (v := .powerDown) h
  | rxiDrpReadIssue => exact exec_rxiOperation_writes (v := .drpReadIssue) h
  | rxiDrpReadWait => exact exec_rxiOperation_writes (v := .drpReadWait) h
  | rxiDrpModIssue => exact exec_rxiOperation_writes (v := .drpModIssue) h
  | rxiDrpModWait => exact exec_rxiOperation_writes (v := .drpModWait) h
  | rxiWaitPmarstFall => exact exec_rxiOperation_writes (v := .waitPmarstFall) h
  | rxiDrpRestoreIssue => exact exec_rxiOperation_writes (v := .drpRestoreIssue) h
  | rxiDrpRestoreWait => exact exec_rxiOperation_writes (v := .drpRestoreWait) h
  | rxiWaitGtpReset => exact exec_rxiOperation_writes (v := .waitGtpReset) h
  | rxiAlign => exact exec_rxiOperation_writes (v := .align) h
  | rxiWaitAlignDone => exact exec_rxiOperation_writes (v := .waitAlignDone) h
  | rxiReady => exact exec_rxiOperation_writes (v := .ready) h
  | ncoBuild | matchConfig | acqConfig | cordicConfig | seqConfig | txiConfig | rxiConfig => cases hi

end

end Sys2Proof.Proofs
end

section
/-! SUPPORT. The places of a tick run one after the other: what they leave alone, what they keep, that their order and
the registers of other units do not matter, and that none of them stops. -/

namespace Sys2Proof.Proofs

open Sys2Proof.Machine Sys2Proof.Safety

@[simp] theorem focusSlot_inst (s : State) (p : Slot) : (s.focusSlot p).inst = s.inst := by cases p <;> rfl
@[simp] theorem focusSlot_regs (s : State) (p : Slot) : (s.focusSlot p).regs = s.regs := by cases p <;> rfl
@[simp] theorem focusSlot_next (s : State) (p : Slot) : (s.focusSlot p).next = s.next := by cases p <;> rfl
@[simp] theorem focusSlot_inputs (s : State) (p : Slot) : (s.focusSlot p).inputs = s.inputs := by cases p <;> rfl

/-- `s` with other next values and another focus: what a running tick has made of its start. -/
def running (s : State) (n : Regs) (v : LinkVariant) : State := { s with next := n, focus := v }

/-- `f` is what the place does in a tick that starts as `s`: one write of its own, in every state in which it reads
what it reads in `s`. -/
structure PlaceRuns (s : State) (rst : Level) (p : Slot) (f : Regs → Regs) : Prop where
  write : PlaceWrite s.inst s.regs p f
  run : ∀ s' : State, s'.inst = s.inst → s'.inputs = s.inputs → SameRegs s.regs s'.regs p →
    runSlot rst p s' = .next { s'.focusSlot p with next := f s'.next }

/-- The places of a list, one after the other, take the next values `n` to `m` in a tick that starts as `s`. -/
inductive TickWrites (s : State) (rst : Level) : List Slot → Regs → Regs → Prop
  | nil (n : Regs) : TickWrites s rst [] n n
  | cons {p : Slot} {ps : List Slot} {f : Regs → Regs} {n m : Regs} (head : PlaceRuns s rst p f)
      (tail : TickWrites s rst ps (f n) m) : TickWrites s rst (p :: ps) n m

section
variable {s s' t : State} {rst : Level} {p q : Slot} {ps qs : List Slot} {f g : Regs → Regs} {n n' m m' : Regs}
  {v : LinkVariant}

/-- The operation that a place selects depends on what it reads alone. -/
theorem slotOperation_congr (hinputs : s'.inputs = s.inputs) (hregs : SameRegs s.regs s'.regs p) :
    slotOperation s' rst p = slotOperation s rst p := by
  cases p with
  | nco | matcher | cordic => rfl
  | acq =>
    have hr : s'.regs.acq = s.regs.acq := hregs.1
    simp only [slotOperation, slotClr, slotCode, runningOperation, hr, hinputs]
  | seq =>
    have hr : s'.regs.seq = s.regs.seq := hregs
    simp only [slotOperation, slotClr, slotCode, runningOperation, hr, hinputs]
  | link v a =>
    cases v with
    | tx =>
      have hr : s'.regs.txi = s.regs.txi := hregs
      cases a <;> simp only [slotOperation, slotClr, slotCode, runningOperation, hr]
    | rx =>
      have hr : s'.regs.rxi = s.regs.rxi := hregs
      cases a <;> simp only [slotOperation, slotClr, slotCode, runningOperation, hr]

theorem exists_placeRuns (h : runSlot rst p s = .next t) : ∃ f, PlaceRuns s rst p f := by
  rw [runSlot_eq_exec] at h
  obtain ⟨hplace, hconf⟩ := operationPlace_slotOperation s rst p
  have hw := exec_writes hconf h
  rw [hplace] at hw
  obtain ⟨f, hf, hrun⟩ := hw
  rw [focusSlot_inst, focusSlot_regs] at hf
  refine ⟨f, hf, fun s' hinst hinputs hregs => ?_⟩
  rw [runSlot_eq_exec, slotOperation_congr hinputs hregs, hrun (s'.focusSlot p), focusSlot_next]
  exact ⟨by simpa using hinst, by simpa using hinputs, by simpa using hregs, fun v a hp => by subst hp; rfl⟩

theorem PlaceRuns.runSlot_running (hf : PlaceRuns s rst p f) (n : Regs) (v : LinkVariant) :
    runSlot rst p (running s n v) = .next (running s (f n) ((running s n v).focusSlot p).focus) := by
  rw [hf.run (running s n v) rfl rfl (SameRegs.refl _ _)]
  cases p <;> rfl

/-- Where two states show a place the same, it does the same. -/
theorem PlaceRuns.unique (hf : PlaceRuns s rst p f) (hg : PlaceRuns s' rst p g) (hinst : s'.inst = s.inst)
    (hinputs : s'.inputs = s.inputs) (hregs : SameRegs s.regs s'.regs p) : f = g := by
  funext n
  have h := hf.run (running s' n .tx) hinst hinputs hregs
  rw [hg.run (running s' n .tx) rfl rfl (SameRegs.refl _ _)] at h
  exact (congrArg State.next (Host.Outcome.next.inj h)).symm

theorem runSlots_cons_eq_next_iff :
    runSlots rst (p :: ps) s = .next t ↔ ∃ u, runSlot rst p s = .next u ∧ runSlots rst ps u = .next t :=
  andThen_eq_next_iff

/-- The places of a tick that answers change the next values only, by their writes in turn. -/
theorem tickWrites_of_runSlots (h : runSlots rst ps (running s n v) = .next t) :
    TickWrites s rst ps n t.next ∧ t = running s t.next t.focus := by
  induction ps generalizing n v with
  | nil => cases h; exact ⟨.nil n, rfl⟩
  | cons p ps ih =>
    obtain ⟨u, hu, h⟩ := runSlots_cons_eq_next_iff.mp h
    obtain ⟨f, hf⟩ := exists_placeRuns hu
    have hf : PlaceRuns s rst p f := ⟨hf.write, hf.run⟩
    rw [hf.runSlot_running] at hu
    cases hu
    obtain ⟨htail, ht⟩ := ih h
    exact ⟨.cons hf htail, ht⟩

theorem TickWrites.runSlots_eq (h : TickWrites s rst ps n m) (v : LinkVariant) :
    ∃ w, runSlots rst ps (running s n v) = .next (running s m w) := by
  induction h generalizing v with
  | nil n => exact ⟨v, rfl⟩
  | cons head _ ih =>
    obtain ⟨w, hw⟩ := ih _
    exact ⟨w, runSlots_cons_eq_next_iff.mpr ⟨_, head.runSlot_running _ _, hw⟩⟩

/-- R68 (d): the writes of a tick give the same in every order. -/
theorem TickWrites.perm (hperm : ps.Perm qs) (h : TickWrites s rst ps n m) : TickWrites s rst qs n m := by
  induction hperm generalizing n with
  | nil => exact h
  | cons p _ ih =>
    cases h with
    | cons head tail => exact .cons head (ih tail)
  | swap p q l =>
    by_cases hpq : p = q
    · exact hpq ▸ h
    cases h with
    | cons hq tail =>
      cases tail with
      | cons hp tail =>
        refine .cons hp (.cons hq ?_)
        rwa [hq.write.comm hp.write (Ne.symm hpq)]
  | trans _ _ ih₁ ih₂ => exact ih₂ (ih₁ h)

theorem TickWrites.keeps (h : TickWrites s rst ps n m) (hs : RegsOk s.inst s.regs) (hn : RegsOk s.inst n) :
    RegsOk s.inst m := by
  induction h with
  | nil => exact hn
  | cons head _ ih => exact ih (head.write.keeps hs hn)

/-- A tick leaves the registers of the units that have no place in it alone. -/
theorem TickWrites.frame (h : TickWrites s rst ps n m) {l : List Slot}
    (hl : ∀ p ∈ ps, ∀ q ∈ l, placeUnit p ≠ placeUnit q) : AgreeOn l m n := by
  induction h with
  | nil => exact AgreeOn.refl _ _
  | @cons p ps f n m head _ ih =>
    have hf : SameOutside (placeUnit p) n (f n) := head.write.frame
    have hp := hl p List.mem_cons_self
    have htail := ih fun q hq => hl q (List.mem_cons_of_mem _ hq)
    exact
      { nco := fun h => (htail.nco h).trans (hf.nco (hp _ h))
        matcher := fun h => (htail.matcher h).trans (hf.matcher (hp _ h))
        acq := fun h => (htail.acq h).trans (hf.acq (hp _ h))
        cordic := fun h => (htail.cordic h).trans (hf.cordic (hp _ h))
        seq := fun h => (htail.seq h).trans (hf.seq (hp _ h))
        txi := fun a h => (htail.txi a h).trans (hf.txi (hp _ h))
        rxi := fun a h => (htail.rxi a h).trans (hf.rxi (hp _ h)) }

/-- Two ticks that show their places the same take next values that agree to next values that agree. -/
theorem TickWrites.agreeOn {l : List Slot} (h : TickWrites s rst ps n m) (h' : TickWrites s' rst ps n' m')
    (hinst : s'.inst = s.inst) (hinputs : s'.inputs = s.inputs) (hregs : ∀ p ∈ ps, SameRegs s.regs s'.regs p)
    (hn : AgreeOn l n n') : AgreeOn l m m' := by
  induction h generalizing n' with
  | nil => cases h'; exact hn
  | cons head _ ih =>
    cases h' with
    | cons head' tail' =>
      obtain rfl := head.unique head' hinst hinputs (hregs _ List.mem_cons_self)
      exact ih tail' (fun q hq => hregs q (List.mem_cons_of_mem _ hq)) (head.write.agreeOn hn)

end

/-! ### A tick of a domain -/

/-- Everything a tick that answers can do: the writes of its present places, which land together. -/
theorem tickDomain_eq_next_iff_tickWrites {d : Domain} {s t : State} :
    tickDomain d s = .next t ↔ ∃ m, TickWrites s d.rst (d.members.filter (s.present d.rst)) s.regs m ∧
      t = { s with regs := m, next := m } := by
  rw [tickDomain_eq_next_iff]
  constructor
  · rintro ⟨u, hu, rfl⟩
    obtain ⟨hw, hu⟩ := tickWrites_of_runSlots (s := s) (n := s.regs) (v := s.focus) hu
    exact ⟨_, hw, by rw [hu]; rfl⟩
  · rintro ⟨m, hw, rfl⟩
    obtain ⟨w, hw⟩ := hw.runSlots_eq s.focus
    exact ⟨_, hw, rfl⟩

/-- Settles O9: the writes of the places commute, the watchdog's shared ones because every part writes the same
values where it expires. -/
theorem unitOrderIsIrrelevant : Obligations.UnitOrderIsIrrelevant := by
  intro s t d l hperm h
  rw [tickDomain_eq_next_iff_tickWrites] at h ⊢
  obtain ⟨m, hm, ht⟩ := h
  exact ⟨m, hm.perm (hperm.symm.filter _), ht⟩

end Sys2Proof.Proofs
end

section
/-! The statements about the step: what it runs, and what a tick reads and leaves alone. -/

namespace Sys2Proof.Proofs

open Sys2Proof.Machine Sys2Proof.Safety

/-- Settles O56: an operation's one write is of its own place, and a place's write is of its own unit. -/
theorem operationsWriteOnlyTheirUnit : Obligations.OperationsWriteOnlyTheirUnit := by
  intro i s t hi h
  obtain ⟨f, hf, hrun⟩ := exec_writes hi h
  obtain rfl : { s with next := f s.next } = t :=
    Host.Outcome.next.inj ((hrun s (SameReads.refl _ _)).symm.trans h)
  have hframe : SameOutside (placeUnit (operationPlace s.focus i)) s.next (f s.next) := hf.frame
  rw [placeUnit_operationPlace] at hframe
  exact ⟨rfl, hframe.nco, hframe.matcher, hframe.acq, hframe.cordic, hframe.seq, hframe.txi, hframe.rxi⟩

/-! ### The step on each statement of the environment -/

section
variable {s t : State} {n : Nat} {levels : List PortLevel} {rest : List Stim} {d : Domain} {rst : Level}

/-- A tick of a domain that exists. -/
theorem step_tick (hs : s.script = .tick n levels :: rest) (hd : s.domains[n]? = some d) :
    step s = if clocked s.domains then
      tickDomain (domainLevels d levels) (withLevels n d levels { s with script := rest })
      else .refused .domainCrossing := by
  simp only [step_cons hs, stepStim, stepTick, hd]

/-- Everything a tick statement that answers can do. -/
theorem step_tick_cases (hs : s.script = .tick n levels :: rest) (h : step s = .next t) :
    (s.domains[n]? = none ∧ t = { s with script := rest }) ∨
    (∃ d m, s.domains[n]? = some d ∧
      TickWrites (withLevels n d levels { s with script := rest }) (domainLevels d levels).rst
        (d.members.filter
          ((withLevels n d levels { s with script := rest }).present (domainLevels d levels).rst)) s.regs m ∧
      t = { withLevels n d levels { s with script := rest } with regs := m, next := m }) := by
  rw [step_cons hs] at h
  rcases stepTick_eq_next_iff.mp h with hnone | ⟨d, hd, -, h⟩
  · exact .inl hnone
  · obtain ⟨m, hm, ht⟩ := tickDomain_eq_next_iff_tickWrites.mp h
    exact .inr ⟨d, m, hd, hm, ht⟩

/-- The configuration operation of a unit (R86). -/
def configOperation : ConfigUnit → Instr
  | .nco => .ncoBuild
  | .matcher => .matchConfig
  | .acq => .acqConfig
  | .cordic => .cordicConfig
  | .seq => .seqConfig
  | .txi => .txiConfig
  | .rxi => .rxiConfig

theorem decode_configWord (u : ConfigUnit) : decode (configWord u) = .ok (configOperation u) := by
  cases u <;> rfl

theorem step_configure {call : ConfigCall} (hs : s.script = .configure call :: rest) :
    step s = exec (configOperation (ConfigCall.unit call))
      { s with script := rest, params := presentOperands s.params call } := by
  simp only [step_cons hs, stepStim, stepConfigure, runWord, decode_configWord]

/-! ### A tick as a fold of the operations chosen at its start -/

/-- A fold of operations stops where one does. -/
theorem foldl_andThen {α : Type} (k : α → State → Result) (l : List α) (r : Result) :
    l.foldl (fun r a => andThen r (k a)) r
      = andThen r fun s => l.foldl (fun r a => andThen r (k a)) (.next s) := by
  induction l generalizing r with
  | nil => cases r <;> rfl
  | cons a l ih =>
    simp only [List.foldl_cons]
    rw [ih, andThen_assoc]
    exact congrArg (andThen r) (funext fun s => (ih _).symm)

theorem runSlots_eq_foldl (s : State) (rst : Level) (ps : List Slot) (n : Regs) (v : LinkVariant) :
    runSlots rst ps (running s n v) =
      ps.foldl (fun r p => andThen r fun t => exec (slotOperation s rst p) (t.focusSlot p))
        (.next (running s n v)) := by
  induction ps generalizing n v with
  | nil => rfl
  | cons p ps ih =>
    have hop : slotOperation (running s n v) rst p = slotOperation s rst p :=
      slotOperation_congr rfl (SameRegs.refl _ _)
    have hhead := runSlot_eq_exec rst p (running s n v)
    rw [hop] at hhead
    rw [runSlots_cons, List.foldl_cons, andThen_next, foldl_andThen, ← hhead]
    cases h : runSlot rst p (running s n v) with
    | next u =>
      have hu := (tickWrites_of_runSlots (runSlots_cons_eq_next_iff.mpr ⟨u, h, runSlots_nil rst u⟩)).2
      rw [hu]
      exact ih _ _
    | fault e => rfl
    | refused e => rfl

end

/-- Settles O8: no operation changes what a later place reads, so each runs what the start of the tick selects. -/
theorem tickRunsEveryUnitOnce : Obligations.TickRunsEveryUnitOnce := by
  intro s n levels rest d hs hd
  refine ⟨fun hc => ?_, fun hc => ?_⟩
  · rw [step_tick hs hd, if_pos hc]
    exact congrArg (andThen · _) (runSlots_eq_foldl (withLevels n d levels { s with script := rest }) _ _ _ _)
  · rw [step_tick hs hd, hc]
    rfl

theorem runSlots_singleton (rst : Level) (p : Slot) (s : State) : runSlots rst [p] s = runSlot rst p s := by
  rw [runSlots_cons]
  cases runSlot rst p s <;> rfl

/-- Settles O6: a tick of one present place runs its one word. -/
theorem stepRunsDecodedOperation : Obligations.StepRunsDecodedOperation := by
  intro s n levels rest d p i hs hd hmem hc rst u hpresent hdecode
  have hslots : (domainLevels d levels).members.filter (u.present rst) = [p] := by
    rw [domainLevels_members, hmem, List.filter_singleton, hpresent]
    rfl
  have hrun : runSlots rst [p] u.latch = exec i (u.latch.focusSlot p) := by
    have hdecode' : decode (u.latch.selector rst p) = .ok i := hdecode
    rw [runSlots_singleton, runSlot, runWord, hdecode']
  rw [step_tick hs hd, if_pos hc, tickDomain, hslots]
  exact congrArg (andThen · _) hrun

/-- Settles O7: each configuration word spells the configuration operation of its unit. -/
theorem stepRunsConfigurationOperation : Obligations.StepRunsConfigurationOperation := by
  intro s call rest hs
  refine ⟨fun i hi => ?_, ?_⟩
  · obtain rfl : configOperation (ConfigCall.unit call) = i :=
      Except.ok.inj ((decode_configWord _).symm.trans hi)
    exact step_configure hs
  · cases call <;> exact step_configure hs

/-! ### Input levels (R90) -/

theorem applyLevels_concat (i : Inputs) (l : List PortLevel) (e : PortLevel) :
    applyLevels i (l ++ [e]) = applyLevel (applyLevels i l) e := by
  simp [applyLevels]

theorem applyLevels_of_rst_only {i : Inputs} {l : List PortLevel} (h : ∀ e ∈ l, ∃ v, e = .rst v) :
    applyLevels i l = i := by
  induction l with
  | nil => rfl
  | cons e l ih =>
    obtain ⟨v, rfl⟩ := h e List.mem_cons_self
    exact ih fun e he => h e (List.mem_cons_of_mem _ he)

theorem applyRst_of_ne {r : Level} {e : PortLevel} (h : ∀ b, e ≠ .rst b) : applyRst r e = r := by
  cases e with
  | rst b => exact absurd rfl (h b)
  | _ => rfl

theorem domainLevels_concat (d : Domain) (l : List PortLevel) (e : PortLevel) :
    domainLevels d (l ++ [e]) = ⟨d.members, applyRst (domainLevels d l).rst e⟩ := by
  simp [domainLevels]

theorem domainLevels_of_no_rst {d : Domain} {l : List PortLevel} (h : ∀ b, .rst b ∉ l) : domainLevels d l = d := by
  induction l with
  | nil => rfl
  | cons e l ih =>
    have he : applyRst d.rst e = d.rst := applyRst_of_ne fun b hb => h b (hb ▸ List.mem_cons_self)
    have hl : domainLevels d (e :: l) = domainLevels d l := by simp only [domainLevels, List.foldl_cons, he]
    exact hl.trans (ih fun b hb => h b (List.mem_cons_of_mem _ hb))

/-- Settles O59: the levels of a tick are a fold over its list, and no operation writes them. -/
theorem inputLevelsHold : Obligations.InputLevelsHold := by
  refine ⟨fun i l h => applyLevels_of_rst_only h, fun i l b v w => ?_, fun d l h => domainLevels_of_no_rst h,
    fun d l b => domainLevels_concat d l (.rst b), fun d l e h => ?_, ?_⟩
  · simp only [applyLevels_concat, applyLevel, and_self]
  · rw [domainLevels_concat, applyRst_of_ne h]
    rfl
  · intro s t n levels rest d hs hd h
    rcases step_tick_cases hs h with ⟨hnone, -⟩ | ⟨d', m, hd', -, rfl⟩
    · cases hnone.symm.trans hd
    · obtain rfl : d' = d := Option.some.inj (hd'.symm.trans hd)
      obtain ⟨hn, -⟩ := List.getElem?_eq_some_iff.mp hd
      refine ⟨rfl, by simp [hn], fun k hk => ?_⟩
      simp [List.getElem?_set_ne (Ne.symm hk)]

/-! ### What a tick leaves alone and does not read (R6, R69) -/

/-- R6 and R69, read off the partition. -/
theorem clocked_iff {ds : List Domain} :
    clocked ds = true ↔ (∀ d ∈ ds, d.members.Nodup) ∧
      ds.Pairwise fun d e => ∀ p ∈ d.members, ∀ q ∈ e.members, slotComponent p ≠ slotComponent q := by
  simp [clocked, noCrossing]

/-- R69: the matcher stands in the domain of its acquisition FSM, because no component stands in two. -/
theorem matcher_mem_of_acq_mem {ds : List Domain} {n : Nat} {d : Domain} (h : DomainsOk ds)
    (hd : ds[n]? = some d) (hacq : .acq ∈ d.members) : .matcher ∈ d.members := by
  obtain ⟨e, he, hmatcher⟩ := h.placed .matcher
  obtain ⟨m, hm, rfl⟩ := List.getElem_of_mem he
  obtain ⟨hn, rfl⟩ := List.getElem?_eq_some_iff.mp hd
  have hcross := List.pairwise_iff_getElem.mp (clocked_iff.mp h.clocked).2
  rcases lt_trichotomy m n with hmn | rfl | hnm
  · exact (hcross m n hm hn hmn _ hmatcher _ hacq rfl).elim
  · exact hmatcher
  · exact (hcross n m hn hm hnm _ hacq _ hmatcher rfl).elim

/-- Registers that agree on some places show each of them the same, the acquisition FSM only beside its matcher. -/
theorem AgreeOn.sameRegs {l : List Slot} {r r' : Regs} {p : Slot} (h : AgreeOn l r r') (hp : p ∈ l)
    (hmatcher : .acq ∈ l → .matcher ∈ l) : SameRegs r r' p := by
  cases p with
  | nco => exact (h.nco hp).symm
  | matcher => exact (h.matcher hp).symm
  | acq => exact ⟨(h.acq hp).symm, (h.matcher (hmatcher hp)).symm⟩
  | cordic => exact (h.cordic hp).symm
  | seq => exact (h.seq hp).symm
  | link v a =>
    cases v with
    | tx => exact (h.txi a hp).symm
    | rx => exact (h.rxi a hp).symm

theorem present_congr {s s' : State} {rst : Level} {p : Slot} (hinst : s'.inst = s.inst)
    (hinputs : s'.inputs = s.inputs) (hregs : SameRegs s.regs s'.regs p) : s'.present rst p = s.present rst p := by
  have hstands : s'.stands p = s.stands p := by
    cases p with
    | link v a => cases v <;> cases a <;> simp only [State.stands, hinst]
    | _ => simp only [State.stands, hinst]
  have hreads : s'.readsMatch rst p = s.readsMatch rst p := by
    cases p with
    | acq =>
      have hr : s'.regs.acq = s.regs.acq := hregs.1
      simp only [State.readsMatch, hinputs, hr]
    | _ => rfl
  simp only [State.present, hstands, hreads, hinst]

theorem members_of_getElem? {s : State} {n : Nat} {d : Domain} (h : s.domains[n]? = some d) :
    members s n = d.members := by
  simp [members, h]

/-- A tick leaves the registers of every unit without a place in its domain alone. -/
theorem step_tick_frame {s t : State} {n : Nat} {levels : List PortLevel} {rest : List Stim}
    (hs : s.script = .tick n levels :: rest) (h : step s = .next t) (q : Slot)
    (hq : ∀ p ∈ members s n, placeUnit p ≠ placeUnit q) : AgreeOn [q] t.regs s.regs := by
  rcases step_tick_cases hs h with ⟨-, rfl⟩ | ⟨d, m, hd, hm, rfl⟩
  · exact AgreeOn.refl _ _
  · rw [members_of_getElem? hd] at hq
    refine hm.frame fun p hp q' hq' => ?_
    rw [List.mem_singleton.mp hq']
    exact hq p (List.mem_of_mem_filter hp)

theorem placeUnit_inj_or_link {p q : Slot} (h : placeUnit p = placeUnit q) :
    p = q ∨ ∃ v a b, p = .link v a ∧ q = .link v b := by
  cases p <;> cases q
  case link.link v a w b =>
    cases v <;> cases w
    case tx.tx | rx.rx => exact .inr ⟨_, a, b, rfl, rfl⟩
    all_goals cases h
  case link.nco | link.matcher | link.acq | link.cordic | link.seq => rename_i v _; cases v <;> cases h
  case nco.link | matcher.link | acq.link | cordic.link | seq.link => rename_i v _; cases v <;> cases h
  all_goals first | exact .inl rfl | cases h

/-- The units of a domain go on in the same way whatever the registers outside of it are. -/
theorem step_tick_agreeOn {s t u : State} {n : Nat} {levels : List PortLevel} {rest : List Stim} {q : Regs}
    (hs : s.script = .tick n levels :: rest) (hdom : DomainsOk s.domains) (hq : AgreeOn (members s n) s.regs q)
    (h : step s = .next t) (h' : step { s with regs := q } = .next u) : AgreeOn (members s n) t.regs u.regs := by
  rcases step_tick_cases hs h with ⟨hnone, rfl⟩ | ⟨d, m, hd, hm, rfl⟩ <;>
    rcases step_tick_cases (s := { s with regs := q }) hs h' with ⟨hnone', rfl⟩ | ⟨d', m', hd', hm', rfl⟩
  · exact hq
  · cases hnone.symm.trans hd'
  · cases hnone'.symm.trans hd
  · obtain rfl : d' = d := Option.some.inj (hd'.symm.trans hd)
    rw [members_of_getElem? hd] at hq ⊢
    have hreads : ∀ p ∈ d'.members, SameRegs s.regs q p := fun p hp =>
      AgreeOn.sameRegs hq hp (matcher_mem_of_acq_mem hdom hd)
    have hfilter : d'.members.filter
        ((withLevels n d' levels { s with regs := q, script := rest }).present (domainLevels d' levels).rst)
        = d'.members.filter
          ((withLevels n d' levels { s with script := rest }).present (domainLevels d' levels).rst) :=
      List.filter_congr fun p hp => present_congr rfl rfl (hreads p hp)
    rw [hfilter] at hm'
    exact hm.agreeOn hm' rfl rfl (fun p hp => hreads p (List.mem_of_mem_filter hp)) hq

/-- Settles O58: the frame is that of the places' writes; and a place reads its own unit only, the acquisition FSM
also its matcher, which R69 puts in the same domain. -/
theorem tickLeavesOtherDomainsAlone : Obligations.TickLeavesOtherDomainsAlone := by
  intro s t n levels rest hs h
  have hfields : t.inst = s.inst ∧ t.params = s.params ∧ t.error = s.error ∧ t.script = rest := by
    rcases step_tick_cases hs h with ⟨-, rfl⟩ | ⟨d, m, -, -, rfl⟩ <;> exact ⟨rfl, rfl, rfl, rfl⟩
  obtain ⟨hinst, hparams, herror, hscript⟩ := hfields
  have hframe := step_tick_frame hs h
  have hplace : ∀ q, (∀ v a, q ≠ .link v a) → q ∉ members s n →
      ∀ p ∈ members s n, placeUnit p ≠ placeUnit q :=
    fun q hlink hq p hp he => by
      rcases placeUnit_inj_or_link he with rfl | ⟨v, a, b, -, rfl⟩
      · exact hq hp
      · exact hlink v b rfl
  have hlink : ∀ v, (∀ a, .link v a ∉ members s n) →
      ∀ p ∈ members s n, placeUnit p ≠ placeUnit (.link v .fsm) := fun v hv p hp he => by
    rcases placeUnit_inj_or_link he with rfl | ⟨w, a, b, rfl, hw⟩
    · exact hv _ hp
    · cases hw; exact hv a hp
  exact ⟨hinst, hparams, herror, hscript,
    fun hq => (hframe .nco (hplace _ (fun _ _ h => nomatch h) hq)).nco List.mem_cons_self,
    fun hq => (hframe .matcher (hplace _ (fun _ _ h => nomatch h) hq)).matcher List.mem_cons_self,
    fun hq => (hframe .acq (hplace _ (fun _ _ h => nomatch h) hq)).acq List.mem_cons_self,
    fun hq => (hframe .cordic (hplace _ (fun _ _ h => nomatch h) hq)).cordic List.mem_cons_self,
    fun hq => (hframe .seq (hplace _ (fun _ _ h => nomatch h) hq)).seq List.mem_cons_self,
    fun hq => (hframe _ (hlink .tx hq)).txi .fsm List.mem_cons_self,
    fun hq => (hframe _ (hlink .rx hq)).rxi .fsm List.mem_cons_self,
    fun hdom q u hq hu => step_tick_agreeOn hs hdom hq h hu⟩

/-! ### The sequencer's operations and its `base` -/

theorem baseOf_of_not_listed {base : BaseMap} {sym : Nat} (h : ∀ offset, (sym, offset) ∉ base) :
    baseOf base sym = sym := by
  have hnone : base.lookup sym = none := by
    rw [List.lookup_eq_none_iff]
    rintro ⟨a, offset⟩ hmem
    simpa using fun heq : sym = a => h offset (heq ▸ hmem)
  rw [baseOf, hnone]
  rfl

theorem baseOf_first_listed {before after : BaseMap} {sym offset : Nat} (h : ∀ other, (sym, other) ∉ before) :
    baseOf (before ++ (sym, offset) :: after) sym = offset := by
  induction before with
  | nil => simp [baseOf]
  | cons e before ih =>
    obtain ⟨a, o⟩ := e
    have hne : (sym == a) = false := by
      simpa using fun heq : sym = a => h o (heq ▸ List.mem_cons_self)
    have hrest := ih fun other hmem => h other (List.mem_cons_of_mem _ hmem)
    simpa only [baseOf, List.cons_append, List.lookup_cons, hne] using hrest

/-- Settles O37, by the lookup pipeline that `SEQ.RUN` and `SEQ.IDLE` share. -/
theorem seqOperationResults : Obligations.SeqOperationResults := by
  refine ⟨fun base sym h => baseOf_of_not_listed h, fun before after sym offset h => baseOf_first_listed h,
    fun s c hc => ⟨fun st => ?_, fun sym w hsym hw => ?_⟩⟩
  · exact withConfig_eq_next_iff.mpr ⟨c, hc, rfl⟩
  · have hpipeline : ∀ i j d, seqPipeline c s i j d = .next { s with next := { s.next with
        seq := ⟨i, j, s.regs.seq.sampleIndex, sym, w, d, s.regs.seq.done, s.regs.seq.doneD1⟩ } } :=
      fun i j d => seqPipeline_eq_next_iff.mpr ⟨sym, w, hsym, hw, rfl⟩
    have hrun : exec .seqRun s = _ := execSeqRun_eq hc
    refine ⟨?_, fun hend hlast => ?_, fun hend hlast => ?_, fun hend => ?_⟩
    · exact withConfig_eq_next_iff.mpr ⟨c, hc, hpipeline 0 0 true⟩
    · rw [hrun, if_pos (seqWindowEnds_iff.mpr hend), if_pos (seqLastSymbol_iff.mpr hlast), hpipeline]
    · rw [hrun, if_pos (seqWindowEnds_iff.mpr hend), if_neg (mt seqLastSymbol_iff.mp hlast), hpipeline]
    · rw [hrun, if_neg (mt seqWindowEnds_iff.mp hend), hpipeline]

end Sys2Proof.Proofs
end

section
/-! The invariant: it holds at reset, every configuration operation and every tick keeps it, and no step stops in a
state that has it. -/

namespace Sys2Proof.Proofs

open Sys2Proof.Machine Sys2Proof.Safety

/-! ### What a configuration operation builds satisfies R24 -/

theorem bitsValue_lt (l : List Bool) : bitsValue l < 2 ^ l.length := by
  induction l with
  | nil => simp [bitsValue]
  | cons b l ih =>
    have hb := b.toNat_le
    rw [bitsValue, List.length_cons, pow_succ]
    omega

theorem packWord_lt (order : PackOrder) (l : List Bool) : packWord order l < 2 ^ l.length := by
  cases order with
  | lsbFirst => exact bitsValue_lt l
  | msbFirst => simpa [packWord] using bitsValue_lt l.reverse

/-- The period that the search finds is a multiple of the step from its start (R100). -/
theorem ncoSearch_eq_some {p : NcoParams} {step limit fuel start n : Nat}
    (h : ncoSearch p step limit fuel start = some n) : ∃ k, n = start + k * step := by
  induction fuel generalizing start with
  | zero => cases h
  | succ fuel ih =>
    rw [ncoSearch] at h
    split at h
    · cases h
    · split at h
      · cases h; exact ⟨0, by simp⟩
      · obtain ⟨k, rfl⟩ := ih h
        exact ⟨k + 1, by ring⟩

theorem length_ncoTable (p : NcoParams) (w n : Nat) (cycles : ℤ) : (ncoTable p w n cycles).length = n / w := by
  simp [ncoTable]

/-- Everything a built NCO is: a period of whole words and its table (R100, R102). -/
theorem buildNco_ok {p : NcoParams} {c : NcoConfig} (h : buildNco p = .ok c) :
    1 ≤ c.width ∧ 1 ≤ c.table.length ∧ c.period = c.table.length * c.width ∧
      c.cycles = ncoCycles p c.period ∧ c.table = ncoTable p c.width c.period c.cycles ∧
      ncoPhaseAdmitted p c.period = true := by
  obtain ⟨hwidth, -, -, -, n, hn, hadmitted, rfl⟩ := buildNco_eq_ok_iff.mp h
  obtain ⟨k, hk⟩ := ncoSearch_eq_some hn
  have hw : 1 ≤ p.width.toNat := by omega
  have hperiod : n = (k + 1) * p.width.toNat := by rw [hk]; ring
  have hwords : n / p.width.toNat = k + 1 := by rw [hperiod, Nat.mul_div_cancel _ hw]
  refine ⟨hw, ?_, ?_, rfl, rfl, hadmitted⟩
  · simp only [length_ncoTable, hwords]
    omega
  · simpa only [length_ncoTable, hwords] using hperiod

theorem ncoOk_of_build {p : NcoParams} {c : NcoConfig} (h : buildNco p = .ok c) : NcoOk c ncoResetRegs := by
  obtain ⟨hwidth, hwords, hperiod, -, htable, -⟩ := buildNco_ok h
  refine ⟨hwidth, hwords, hperiod, fun w hw => ?_, hwords, Nat.two_pow_pos _⟩
  rw [htable, ncoTable, List.mem_map] at hw
  obtain ⟨k, -, rfl⟩ := hw
  simpa [ncoWord] using packWord_lt p.packOrder ((List.range c.width).map _)

theorem matchOk_of_build {p : MatchParams} {c : MatchConfig} (h : buildMatch p = .ok c) :
    MatchOk c (matchResetRegs c) := by
  obtain ⟨hpattern, -, rfl⟩ := buildMatch_eq_ok_iff.mp h
  exact ⟨hpattern, Nat.le_add_left 1 _, by simp [matchResetRegs, histLength]⟩

theorem acqOk_of_build {interval : ℤ} {p : AcqParams} {c : AcqConfig} (h : buildAcq interval p = .ok c) :
    AcqOk c acqResetRegs := by
  obtain ⟨hsps, hbits, hbound, rfl⟩ := buildAcq_eq_ok_iff.mp h
  refine ⟨by dsimp only; omega, by dsimp only; omega, ?_, Nat.two_pow_pos _, Nat.two_pow_pos _⟩
  zify
  rw [Int.toNat_of_nonneg (by omega)]
  omega

theorem cordicOk_of_build {p : CordicParams} {c : CordicConfig} (h : buildCordic p = .ok c) :
    CordicOk c (cordicResetRegs c) := by
  obtain ⟨hbits, hstages, rfl⟩ := buildCordic_eq_ok_iff.mp h
  exact ⟨by dsimp only; omega, by dsimp only; omega, by simp, by simp [cordicResetRegs]⟩

theorem seqOk_of_build {p : SeqParams} {c : SeqConfig} (h : buildSeq p = .ok c) : SeqOk c seqResetRegs := by
  obtain ⟨hwidth, hwindow, -, hpacket, hsymbols, hwords, rfl⟩ := buildSeq_eq_ok_iff.mp h
  have hwps : 1 ≤ p.samplesPerSymbol.toNat / p.width.toNat :=
    Nat.div_pos (Int.toNat_le_toNat hwindow) (by omega)
  exact ⟨by dsimp only; omega, hwps, hpacket, hsymbols, hwords, hpacket, hwps, hwps, .inr rfl,
    Nat.two_pow_pos _, fun h => nomatch h⟩

/-- `T >= 1` for a clock of at least 1 Hz (R184). -/
theorem timerConstant_pos {f : ℤ} (h : 1 ≤ f) : 1 ≤ timerConstant f := by
  have hdiv : 1 ≤ (f + 10 ^ 6 - 1) / 10 ^ 6 := by omega
  simp only [timerConstant, ceilDiv]
  omega

theorem watchdog_pos {w : Option ℤ} (h : ∀ n, w = some n → 1 ≤ n) (m : Nat) (hm : w.map Int.toNat = some m) :
    0 < m := by
  obtain ⟨n, hn, rfl⟩ := Option.map_eq_some_iff.mp hm
  have := h n hn
  omega

theorem txiOk_of_build {p : TxiParams} {c : TxiConfig} (h : buildTxi p = .ok c) : TxiOk c (txiResetRegs c) := by
  obtain ⟨hfreq, hwd, rfl⟩ := buildTxi_eq_ok_iff.mp h
  exact ⟨timerConstant_pos hfreq, le_rfl, watchdog_pos hwd⟩

theorem rxiOk_of_build {p : RxiParams} {c : RxiConfig} (h : buildRxi p = .ok c) : RxiOk c (rxiResetRegs c) := by
  obtain ⟨hfreq, hwd, rfl⟩ := buildRxi_eq_ok_iff.mp h
  exact ⟨timerConstant_pos hfreq, le_rfl, watchdog_pos hwd⟩

/-! ### Configuration keeps the invariant -/

section
variable {i : Instances} {r : Regs}

theorem RegsOk.without (h : RegsOk i r) (u : ConfigUnit) : RegsOk (Instances.without i u) r := by
  cases u with
  | nco => exact { h with nco := fun _ hc => nomatch hc }
  | matcher => exact { h with matcher := fun _ hc => nomatch hc }
  | acq => exact { h with acq := fun _ hc => nomatch hc }
  | cordic => exact { h with cordic := fun _ hc => nomatch hc }
  | seq => exact { h with seq := fun _ hc => nomatch hc }
  | txi => exact { h with txi := fun _ hc => nomatch hc }
  | rxi => exact { h with rxi := fun _ hc => nomatch hc }

/-- A configuration keeps R24, if what it installs satisfies it. -/
theorem configureWith_keeps {α : Type} {s t : State} {call : ConfigCall} {outcome : Except ConfigCause α}
    {install : State → α → State} (hs : RegsOk s.inst s.regs)
    (hinstall : ∀ c, outcome = .ok c → RegsOk (install s c).inst (install s c).regs)
    (h : configureWith s call outcome install = .next t) : RegsOk t.inst t.regs := by
  rcases configureWith_eq_next_iff.mp h with ⟨c, hc, rfl⟩ | ⟨cause, -, rfl⟩
  · exact hinstall c hc
  · exact hs.without _

end

section
variable {s t : State} {u : ConfigUnit}

theorem exec_configOperation_answers (s : State) (u : ConfigUnit) : ∃ t, exec (configOperation u) s = .next t := by
  have hall : ∀ {α : Type} call (outcome : Except ConfigCause α) install,
      ∃ t, configureWith s call outcome install = .next t := fun _ outcome _ => by
    cases outcome <;> exact ⟨_, rfl⟩
  cases u <;> exact hall _ _ _

theorem exec_configOperation_keeps (hs : RegsOk s.inst s.regs) (h : exec (configOperation u) s = .next t) :
    RegsOk t.inst t.regs := by
  cases u with
  | nco =>
    exact configureWith_keeps hs (fun c hc =>
      { hs with nco := fun c' hc' => by cases hc'; exact ncoOk_of_build hc }) h
  | matcher =>
    exact configureWith_keeps hs (fun c hc =>
      { hs with matcher := fun c' hc' => by cases hc'; exact matchOk_of_build hc }) h
  | acq =>
    exact configureWith_keeps hs (fun c hc =>
      { hs with acq := fun c' hc' => by cases hc'; exact acqOk_of_build hc }) h
  | cordic =>
    exact configureWith_keeps hs (fun c hc =>
      { hs with cordic := fun c' hc' => by cases hc'; exact cordicOk_of_build hc }) h
  | seq =>
    exact configureWith_keeps hs (fun c hc =>
      { hs with seq := fun c' hc' => by cases hc'; exact seqOk_of_build hc }) h
  | txi =>
    exact configureWith_keeps hs (fun c hc =>
      { hs with txi := fun c' hc' => by cases hc'; exact txiOk_of_build hc }) h
  | rxi =>
    exact configureWith_keeps hs (fun c hc =>
      { hs with rxi := fun c' hc' => by cases hc'; exact rxiOk_of_build hc }) h

theorem configureWith_domains {α : Type} {call : ConfigCall} {outcome : Except ConfigCause α}
    {install : State → α → State} (hinstall : ∀ c, (install s c).domains = s.domains)
    (h : configureWith s call outcome install = .next t) : t.domains = s.domains := by
  rcases configureWith_eq_next_iff.mp h with ⟨c, -, rfl⟩ | ⟨cause, -, rfl⟩
  · exact hinstall c
  · rfl

theorem exec_configOperation_domains (h : exec (configOperation u) s = .next t) : t.domains = s.domains := by
  cases u <;> exact configureWith_domains (fun _ => rfl) h

end

/-- The partition does not change with the levels of a tick. -/
theorem DomainsOk.set_domainLevels {ds : List Domain} {n : Nat} {d : Domain} (levels : List PortLevel)
    (h : DomainsOk ds) (hd : ds[n]? = some d) : DomainsOk (ds.set n (domainLevels d levels)) := by
  refine ⟨(clocked_set_domainLevels hd).trans h.clocked, fun p => ?_⟩
  obtain ⟨e, he, hp⟩ := h.placed p
  obtain ⟨m, hm, rfl⟩ := List.getElem_of_mem he
  obtain ⟨hn, rfl⟩ := List.getElem?_eq_some_iff.mp hd
  by_cases hnm : n = m
  · subst hnm
    exact ⟨_, List.mem_set hn _, hp⟩
  · exact ⟨_, List.mem_iff_getElem.mpr ⟨m, by simpa using hm, List.getElem_set_ne hnm _⟩, hp⟩

/-- Settles O13: what is installed satisfies R24, every write of a tick keeps it, and the partition stays. -/
theorem stepKeepsInvariant : Obligations.StepKeepsInvariant := by
  intro s t hs h
  obtain ⟨hregs, hdom⟩ := inv_iff.mp hs
  cases hscript : s.script with
  | nil =>
    rw [step_nil hscript] at h
    cases h
    exact hs
  | cons e rest =>
    rw [inv_iff]
    cases e with
    | configure call =>
      rw [step_configure hscript] at h
      exact ⟨exec_configOperation_keeps (s := { s with script := rest, params := _ }) hregs h,
        exec_configOperation_domains h ▸ hdom⟩
    | destroy u =>
      rw [step_cons hscript] at h
      cases h
      exact ⟨hregs.without u, hdom⟩
    | tick n levels =>
      rcases step_tick_cases hscript h with ⟨-, rfl⟩ | ⟨d, m, hd, hm, rfl⟩
      · exact ⟨hregs, hdom⟩
      · exact ⟨hm.keeps hregs hregs, DomainsOk.set_domainLevels levels hdom hd⟩

/-! ### No step stops (R242) -/

theorem withWord_of_lt {space : TableSpace} {table : List Nat} {a : Nat} {f : Nat → Result} (h : a < table.length) :
    withWord space table a f = f table[a] := by
  simp [withWord, memRead, h]

/-- R63: every table address of a configured sequencer is in range. -/
theorem seqPipeline_answers {c : SeqConfig} {s : State} (ok : SeqOk c s.regs.seq) (i j : Nat) (d : Bool) :
    ∃ t, seqPipeline c s i j d = .next t := by
  have haddress : seqTableAddress c s.regs.seq < c.table.length :=
    (Nat.add_lt_add_left ok.lastSampleIndex _).trans_le (ok.symbols _ ok.symReg)
  rw [seqPipeline, withWord_of_lt ok.symbolIndex, withWord_of_lt haddress]
  exact ⟨_, rfl⟩

section
variable {s : State} {rst : Level} {p : Slot}

theorem exists_txi_of_stands {a : LinkPart} (h : s.stands (.link .tx a) = true) : ∃ c, s.inst.txi = some c := by
  cases hc : s.inst.txi with
  | none => cases a <;> simp [State.stands, hc] at h
  | some c => exact ⟨c, rfl⟩

theorem exists_rxi_of_stands {a : LinkPart} (h : s.stands (.link .rx a) = true) : ∃ c, s.inst.rxi = some c := by
  cases hc : s.inst.rxi with
  | none => cases a <;> simp [State.stands, hc] at h
  | some c => exact ⟨c, rfl⟩

/-- `RST` answers at every place that stands (R30). -/
theorem execRst_answers (x : RstFields) (h : s.stands p = true) :
    ∃ t, execRst (slotUnit p) x (s.focusSlot p) = .next t := by
  cases p with
  | link v a =>
    cases v with
    | tx =>
      obtain ⟨c, hc⟩ := exists_txi_of_stands h
      cases a <;> simp [slotUnit, execRst, withLink, State.focusSlot, hc]
    | rx =>
      obtain ⟨c, hc⟩ := exists_rxi_of_stands h
      cases a <;> simp [slotUnit, execRst, withLink, State.focusSlot, hc]
  | _ =>
    obtain ⟨c, hc⟩ := Option.isSome_iff_exists.mp h
    simp [slotUnit, execRst, State.focusSlot, hc]

/-- The operation of the acquisition FSM answers where it is present, with the matcher if it reads
`match`. -/
theorem acq_answers (h : s.present false .acq = true) : ∃ t, exec (runningOperation s .acq) s = .next t := by
  simp only [State.present, Bool.and_eq_true] at h
  obtain ⟨hstands, hmatch⟩ := h
  obtain ⟨c, hc⟩ := Option.isSome_iff_exists.mp hstands
  cases hreset : s.inputs.acqReset with
  | true => simp [runningOperation, hreset, exec, execAcqClr, hc]
  | false =>
    cases hstate : s.regs.acq.state with
    | sampling => simp [runningOperation, hreset, hstate, acqOperation, exec, execAcqSample, hc]
    | searching =>
      obtain ⟨m, hm⟩ : ∃ m, s.inst.matcher = some m := by
        simpa [State.readsMatch, hreset, hstate, Option.isSome_iff_exists] using hmatch
      simp [runningOperation, hreset, hstate, acqOperation, exec, execAcqSearch, withMatch, hc, hm]
    | measuring =>
      obtain ⟨m, hm⟩ : ∃ m, s.inst.matcher = some m := by
        simpa [State.readsMatch, hreset, hstate, Option.isSome_iff_exists] using hmatch
      cases hflag : matchFlag m s.regs.matcher <;>
        simp [runningOperation, hreset, hstate, acqOperation, exec, execAcqMeasure, withMatch, hc, hm, hflag]

theorem seq_answers (hs : RegsOk s.inst s.regs) (h : s.stands .seq = true) :
    ∃ t, exec (runningOperation s .seq) s = .next t := by
  obtain ⟨c, hc⟩ := Option.isSome_iff_exists.mp h
  have hpipeline := seqPipeline_answers (hs.seq c hc)
  cases hreset : s.inputs.seqReset with
  | true => simp [runningOperation, hreset, exec, execSeqClr, hc]
  | false =>
    cases hdone : s.regs.seq.done with
    | true => simpa [runningOperation, hreset, hdone, exec, execSeqIdle, hc] using hpipeline 0 0 true
    | false =>
      have hop : exec (runningOperation s .seq) s = execSeqRun s := by
        simp [runningOperation, hreset, hdone, exec]
      rw [hop, execSeqRun_eq hc]
      split
      · split <;> exact hpipeline _ _ _
      · exact hpipeline _ _ _

theorem link_answers {v : LinkVariant} {a : LinkPart} (h : s.stands (.link v a) = true) :
    ∃ t, exec (runningOperation s (.link v a)) (s.focusOn v) = .next t := by
  cases v with
  | tx =>
    obtain ⟨c, hc⟩ := exists_txi_of_stands h
    cases a with
    | fsm =>
      change ∃ t, exec (txiOperation s.regs.txi.state) _ = _
      simp [exec_txiOperation, hc, txiGoto]
    | sync2 => simp [runningOperation, exec, execSync2Tick, withLink, hc]
    | degl => simp [runningOperation, exec, execDeglTick, withLink, hc]
    | wtmr => simp [runningOperation, exec, execWtmrTick, withLink, hc]
    | wdog => simp [runningOperation, exec, execWdogTick, withLink, hc]
  | rx =>
    obtain ⟨c, hc⟩ := exists_rxi_of_stands h
    cases a with
    | fsm =>
      change ∃ t, exec (rxiOperation s.regs.rxi.state) _ = _
      simp [exec_rxiOperation, hc, rxiGoto]
    | sync2 => simp [runningOperation, exec, execSync2Tick, withLink, hc]
    | degl => simp [runningOperation, exec, execDeglTick, withLink, hc]
    | wtmr => simp [runningOperation, exec, execWtmrTick, withLink, hc]
    | wdog => simp [runningOperation, exec, execWdogTick, withLink, hc]

/-- A place that is present answers, if R24 holds. -/
theorem runSlot_answers (hs : RegsOk s.inst s.regs) (h : s.present rst p = true) :
    ∃ t, runSlot rst p s = .next t := by
  rw [runSlot_eq_exec]
  obtain ⟨hstands, -⟩ := Bool.and_eq_true_iff.mp h
  cases rst with
  | true => exact execRst_answers ⟨slotClr s p, slotCode s p⟩ hstands
  | false =>
    change ∃ t, exec (runningOperation s p) (s.focusSlot p) = .next t
    cases p with
    | nco =>
      obtain ⟨c, hc⟩ := Option.isSome_iff_exists.mp hstands
      simp [runningOperation, exec, execNcoTick, State.focusSlot, hc, withWord_of_lt (hs.nco c hc).indexBound]
    | matcher =>
      obtain ⟨c, hc⟩ := Option.isSome_iff_exists.mp hstands
      simp [runningOperation, exec, execMatchShift, State.focusSlot, hc]
    | acq => exact acq_answers h
    | cordic =>
      obtain ⟨c, hc⟩ := Option.isSome_iff_exists.mp hstands
      have hlast : c.stages < s.regs.cordic.ranks.length := by rw [(hs.cordic c hc).ranks]; omega
      simp [runningOperation, exec, execCordicTick, State.focusSlot, hc, hlast]
    | seq => exact seq_answers hs hstands
    | link v a => exact link_answers hstands

theorem exists_tickWrites {ps : List Slot} (hs : RegsOk s.inst s.regs) (h : ∀ p ∈ ps, s.present rst p = true)
    (n : Regs) : ∃ m, TickWrites s rst ps n m := by
  induction ps generalizing n with
  | nil => exact ⟨n, .nil n⟩
  | cons p ps ih =>
    obtain ⟨t, ht⟩ := runSlot_answers hs (h p List.mem_cons_self)
    obtain ⟨f, hf⟩ := exists_placeRuns ht
    obtain ⟨m, hm⟩ := ih (fun q hq => h q (List.mem_cons_of_mem _ hq)) (f n)
    exact ⟨m, .cons hf hm⟩

theorem tickDomain_answers (hs : RegsOk s.inst s.regs) (d : Domain) : ∃ t, tickDomain d s = .next t := by
  obtain ⟨m, hm⟩ := exists_tickWrites (rst := d.rst) (ps := d.members.filter (s.present d.rst)) hs
    (fun _ hp => List.of_mem_filter hp) s.regs
  exact ⟨_, tickDomain_eq_next_iff_tickWrites.mpr ⟨m, hm, rfl⟩⟩

end

/-- Settles O14: a configuration always answers, and under R24 so does every place that is present. -/
theorem stepNeverStops : Obligations.StepNeverStops := by
  intro s hs
  obtain ⟨hregs, hdom⟩ := inv_iff.mp hs
  cases hscript : s.script with
  | nil => exact ⟨s, step_nil hscript⟩
  | cons e rest =>
    cases e with
    | configure call =>
      rw [step_configure hscript]
      exact exec_configOperation_answers _ _
    | destroy u => exact ⟨_, step_cons hscript⟩
    | tick n levels =>
      cases hd : s.domains[n]? with
      | none => exact ⟨_, (step_cons hscript).trans (stepTick_eq_next_iff.mpr (.inl ⟨hd, rfl⟩))⟩
      | some d =>
        rw [step_tick hscript hd, if_pos hdom.clocked]
        exact tickDomain_answers (s := withLevels n d levels { s with script := rest }) hregs _

/-- Settles O12: nothing is configured at reset, and the reset partition is clocked and complete. -/
theorem resetSatisfiesInvariant : Obligations.ResetSatisfiesInvariant := by
  refine inv_iff.mpr ⟨⟨?_, ?_, ?_, ?_, ?_, ?_, ?_⟩, (by decide : clocked initialDomains = true), fun p => ?_⟩
  iterate 7 exact fun _ hc => nomatch hc
  cases p with
  | link v a => cases v <;> cases a <;> decide
  | _ => decide

end Sys2Proof.Proofs
end

section
/-! The NCO's arithmetic against the real numbers of R100 and R101: the rounding of `cycles`, and the sign of the
cosine at every sample, for a rational number of turns by the exact evaluation of R103 and for every other phase by
the cell of phases it lies in. -/

namespace Sys2Proof.Proofs

open Sys2Proof.Machine Sys2Proof.Safety

/-! ### Rounding (R11) -/

theorem roundHalfEven_nearest {a b : ℤ} (hb : 0 < b) :
    |(a : ℚ) / b - roundHalfEven a b| ≤ 1 / 2 ∧
      (|(a : ℚ) / b - roundHalfEven a b| = 1 / 2 → Even (roundHalfEven a b)) := by
  have hb' : (0 : ℚ) < b := by exact_mod_cast hb
  set q := a / b with hq
  set y : ℚ := ((a % b : ℤ) : ℚ) / b with hy
  have hdiv : (a : ℚ) / b = q + y := by
    have ha : (a : ℚ) = b * q + ((a % b : ℤ) : ℚ) := by exact_mod_cast (Int.mul_ediv_add_emod a b).symm
    rw [hy, ha]
    field_simp
  have hy0 : 0 ≤ y := div_nonneg (by exact_mod_cast Int.emod_nonneg a hb.ne') hb'.le
  have hlow : 2 * (a % b) < b ↔ y < 1 / 2 := by
    rw [hy, div_lt_iff₀ hb', ← @Int.cast_lt ℚ]
    push_cast
    constructor <;> intro h <;> linarith
  have hhigh : b < 2 * (a % b) ↔ 1 / 2 < y := by
    rw [hy, lt_div_iff₀ hb', ← @Int.cast_lt ℚ]
    push_cast
    constructor <;> intro h <;> linarith
  have hy1 : y < 1 := by
    rw [hy, div_lt_one hb']
    exact_mod_cast Int.emod_lt_of_pos a hb
  have hround : roundHalfEven a b = if 2 * (a % b) < b then q else if b < 2 * (a % b) then q + 1
      else if q % 2 = 0 then q else q + 1 := rfl
  rw [hdiv, hround]
  by_cases h1 : 2 * (a % b) < b
  · have hlt := hlow.mp h1
    rw [if_pos h1, add_sub_cancel_left, abs_of_nonneg hy0]
    exact ⟨hlt.le, fun h => absurd h hlt.ne⟩
  · rw [if_neg h1]
    by_cases h2 : b < 2 * (a % b)
    · have hgt := hhigh.mp h2
      rw [if_pos h2]
      push_cast
      rw [add_sub_add_left_eq_sub, abs_of_nonpos (by linarith)]
      exact ⟨by linarith, fun h => by linarith⟩
    · have htie : y = 1 / 2 := le_antisymm (not_lt.mp (mt hhigh.mpr h2)) (not_lt.mp (mt hlow.mpr h1))
      rw [if_neg h2]
      split
      · rename_i heven
        rw [add_sub_cancel_left, htie]
        exact ⟨by norm_num, fun _ => Int.even_iff.mpr heven⟩
      · rename_i hodd
        push_cast
        rw [add_sub_add_left_eq_sub, htie]
        exact ⟨by norm_num [abs_le], fun _ => (Int.not_even_iff_odd.mp (mt Int.even_iff.mp hodd)).add_one⟩

/-- Settles O19: the two integers that are rounded have the ratio of R100. -/
theorem ncoCyclesRoundHalfToEven : Obligations.NcoCyclesRoundHalfToEven := by
  intro p n hrate
  have hb : 0 < (p.frequency.den : ℤ) * p.sampleRate.num :=
    mul_pos (by exact_mod_cast p.frequency.den_pos) (Rat.num_pos.mpr hrate)
  have hratio : (n : ℚ) * p.frequency / p.sampleRate =
      ((n * p.frequency.num * p.sampleRate.den : ℤ) : ℚ) /
        ((p.frequency.den * p.sampleRate.num : ℤ) : ℚ) := by
    have hf : (p.frequency.den : ℚ) ≠ 0 := by exact_mod_cast p.frequency.den_nz
    have hd : (p.sampleRate.den : ℚ) ≠ 0 := by exact_mod_cast p.sampleRate.den_nz
    have hs : (p.sampleRate.num : ℚ) ≠ 0 := by exact_mod_cast (Rat.num_pos.mpr hrate).ne'
    conv_lhs => rw [← Rat.num_div_den p.frequency, ← Rat.num_div_den p.sampleRate]
    push_cast
    field_simp
  rw [hratio]
  exact roundHalfEven_nearest hb

/-! ### The sign of the cosine -/

/-- `b` is the sign bit of `x`, `zeroSign` standing for the sign of 0 (R101). -/
def IsSignBit (zeroSign : Bool) (x : ℝ) (b : Bool) : Prop :=
  (0 < x → b = true) ∧ (x < 0 → b = false) ∧ (x = 0 → b = zeroSign)

theorem cos_add_four_mul (w : ℝ) (k : ℤ) : Real.cos (Real.pi / 2 * (w + 4 * k)) = Real.cos (Real.pi / 2 * w) := by
  rw [show Real.pi / 2 * (w + 4 * k) = Real.pi / 2 * w + k * (2 * Real.pi) by ring, Real.cos_add_int_mul_two_pi]

section
variable {w : ℝ}

theorem cos_pos_of_first_quarter (h0 : 0 ≤ w) (h1 : w < 1) : 0 < Real.cos (Real.pi / 2 * w) :=
  Real.cos_pos_of_mem_Ioo ⟨by nlinarith [Real.pi_pos], by nlinarith [Real.pi_pos]⟩

theorem cos_neg_of_middle_quarters (h1 : 1 < w) (h3 : w < 3) : Real.cos (Real.pi / 2 * w) < 0 :=
  Real.cos_neg_of_pi_div_two_lt_of_lt (by nlinarith [Real.pi_pos]) (by nlinarith [Real.pi_pos])

theorem cos_pos_of_last_quarter (h3 : 3 < w) (h4 : w < 4) : 0 < Real.cos (Real.pi / 2 * w) := by
  rw [← Real.cos_sub_two_pi]
  exact Real.cos_pos_of_mem_Ioo ⟨by nlinarith [Real.pi_pos], by nlinarith [Real.pi_pos]⟩

theorem cos_eq_zero_of_one_or_three (h : w = 1 ∨ w = 3) : Real.cos (Real.pi / 2 * w) = 0 := by
  rcases h with rfl | rfl
  · rw [mul_one, Real.cos_pi_div_two]
  · rw [show Real.pi / 2 * 3 = Real.pi / 2 + Real.pi by ring, Real.cos_add_pi, Real.cos_pi_div_two, neg_zero]

/-- The cosine has one strict sign between two neighbouring multiples of a quarter turn. -/
theorem cos_pos_or_neg_of_quarter (k : ℤ) :
    (∀ z : ℝ, k < z → z < k + 1 → 0 < Real.cos (Real.pi / 2 * z)) ∨
    (∀ z : ℝ, k < z → z < k + 1 → Real.cos (Real.pi / 2 * z) < 0) := by
  obtain ⟨r, m, hr0, hr4, hk⟩ : ∃ r m : ℤ, 0 ≤ r ∧ r < 4 ∧ k = r + 4 * m :=
    ⟨k % 4, k / 4, by omega, by omega, by omega⟩
  have hkr : (k : ℝ) = r + 4 * m := by exact_mod_cast hk
  have hshift : ∀ z : ℝ, Real.cos (Real.pi / 2 * z) = Real.cos (Real.pi / 2 * (z - 4 * m)) := fun z => by
    rw [← cos_add_four_mul (z - 4 * m) m, sub_add_cancel]
  simp only [hkr]
  interval_cases r
  · refine .inl fun z h1 h2 => hshift z ▸ cos_pos_of_first_quarter ?_ ?_ <;> push_cast at h1 h2 <;> linarith
  · refine .inr fun z h1 h2 => hshift z ▸ cos_neg_of_middle_quarters ?_ ?_ <;> push_cast at h1 h2 <;> linarith
  · refine .inr fun z h1 h2 => hshift z ▸ cos_neg_of_middle_quarters ?_ ?_ <;> push_cast at h1 h2 <;> linarith
  · refine .inl fun z h1 h2 => hshift z ▸ cos_pos_of_last_quarter ?_ ?_ <;> push_cast at h1 h2 <;> linarith

end

/-! ### A rational number of turns: the exact evaluation of R103 -/

section
variable {N : Nat} {cycles : ℤ}

/-- R101's cosine at a sample, over the fraction of a turn that R103 computes. -/
theorem ncoCosine_turns (hN : 0 < N) (q : ℚ) (n : Nat) :
    ncoCosine (2 * Real.pi * q) N cycles n
      = Real.cos (Real.pi / 2 * (4 * (ncoTurn q N cycles n : ℝ) / (N * q.den : ℝ))) := by
  have hN' : (N : ℝ) ≠ 0 := by positivity
  have hd : (q.den : ℝ) ≠ 0 := by exact_mod_cast q.den_nz
  have hdiv := Int.mul_ediv_add_emod (cycles * n * q.den - q.num * N) (N * q.den)
  set k := (cycles * n * q.den - q.num * N) / (N * q.den) with hk
  have hturn : (N * q.den * k + ncoTurn q N cycles n : ℝ) = cycles * n * q.den - q.num * N := by
    rw [ncoTurn]
    exact_mod_cast hdiv
  rw [← cos_add_four_mul _ k, ncoCosine]
  congr 1
  have hq : (q : ℝ) = q.num / q.den := Rat.cast_def q
  rw [hq]
  field_simp
  linear_combination (-4 : ℝ) * hturn

/-- R103: the exact evaluation gives the sign of R101's cosine. -/
theorem ncoSample_isSignBit (hN : 0 < N) (zeroSign : Bool) (q : ℚ) (n : Nat) :
    IsSignBit zeroSign (ncoCosine (2 * Real.pi * q) N cycles n) (ncoSample zeroSign q N cycles n) := by
  have hd : (0 : ℤ) < N * q.den := by exact_mod_cast Nat.mul_pos hN q.den_pos
  have hd' : (0 : ℝ) < N * q.den := by exact_mod_cast hd
  have hu0 : 0 ≤ ncoTurn q N cycles n := Int.emod_nonneg _ hd.ne'
  have hu1 : ncoTurn q N cycles n < N * q.den := Int.emod_lt_of_pos _ hd
  rw [ncoCosine_turns hN]
  set u := ncoTurn q N cycles n with hu
  set w : ℝ := 4 * (u : ℝ) / (N * q.den : ℝ) with hw
  have hw0 : 0 ≤ w := div_nonneg (by exact_mod_cast Int.mul_nonneg (by norm_num) hu0) hd'.le
  have hw4 : w < 4 := by
    rw [hw, div_lt_iff₀ hd']
    exact_mod_cast (by omega : 4 * u < 4 * (N * q.den))
  have hsample : ncoSample zeroSign q N cycles n =
      if 4 * u < N * q.den ∨ 3 * (N * q.den) < 4 * u then true
      else if 4 * u = N * q.den ∨ 4 * u = 3 * (N * q.den) then zeroSign else false := rfl
  have hlt1 : w < 1 ↔ 4 * u < N * q.den := by
    rw [hw, div_lt_one hd']; exact_mod_cast Iff.rfl
  have hgt3 : 3 < w ↔ 3 * (N * q.den) < 4 * u := by
    rw [hw, lt_div_iff₀ hd']; exact_mod_cast Iff.rfl
  have heq1 : w = 1 ↔ 4 * u = N * q.den := by
    rw [hw, div_eq_one_iff_eq hd'.ne']; exact_mod_cast Iff.rfl
  have heq3 : w = 3 ↔ 4 * u = 3 * (N * q.den) := by
    rw [hw, div_eq_iff hd'.ne']; exact_mod_cast Iff.rfl
  rw [hsample]
  by_cases hpos : w < 1 ∨ 3 < w
  · have hcos : 0 < Real.cos (Real.pi / 2 * w) :=
      hpos.elim (cos_pos_of_first_quarter hw0) (cos_pos_of_last_quarter · hw4)
    rw [if_pos (hpos.imp hlt1.mp hgt3.mp)]
    exact ⟨fun _ => rfl, fun h => absurd h hcos.not_gt, fun h => absurd h hcos.ne'⟩
  · rw [if_neg (mt (Or.imp hlt1.mpr hgt3.mpr) hpos)]
    by_cases hzero : w = 1 ∨ w = 3
    · have hcos := cos_eq_zero_of_one_or_three hzero
      rw [if_pos (hzero.imp heq1.mp heq3.mp), hcos]
      exact ⟨fun h => absurd h (lt_irrefl _), fun h => absurd h (lt_irrefl _), fun _ => rfl⟩
    · rw [if_neg (mt (Or.imp heq1.mpr heq3.mpr) hzero)]
      rw [not_or, not_lt, not_lt] at hpos
      rw [not_or] at hzero
      have hcos := cos_neg_of_middle_quarters (hpos.1.lt_of_ne' hzero.1) (hpos.2.lt_of_ne hzero.2)
      exact ⟨fun h => absurd h hcos.not_gt, fun _ => rfl, fun h => absurd h hcos.ne⟩

/-! ### The cells of phases between neighbouring zeros of the cosine -/

/-- The phase of the middle of cell `j`, in turns: `(2j+1)/(8N)`. -/
def cellTurns (N j : Nat) : ℚ := mkRat (2 * j + 1) (8 * N)

/-- At every sample the phase `φ` and the middle of cell `j` have the same strict sign. -/
def InCell (N : Nat) (cycles : ℤ) (j : Nat) (φ : ℝ) : Prop :=
  ∀ n : Nat,
    (0 < ncoCosine φ N cycles n ∧ 0 < ncoCosine (2 * Real.pi * cellTurns N j) N cycles n) ∨
    (ncoCosine φ N cycles n < 0 ∧ ncoCosine (2 * Real.pi * cellTurns N j) N cycles n < 0)

theorem ncoCosine_quarters (hN : 0 < N) (t : ℝ) (n : Nat) :
    ncoCosine (2 * Real.pi * (t / (4 * N))) N cycles n
      = Real.cos (Real.pi / 2 * ((4 * cycles * n - t) / N)) := by
  have hN' : (N : ℝ) ≠ 0 := by positivity
  rw [ncoCosine]
  congr 1
  field_simp
  ring

/-- The phases of `t/(4N)` turns with `t` between `j` and `j+1` are in cell `j`: R101's cosine is 0 only at whole
multiples of `1/(4N)` of a turn. -/
theorem inCell_of_mem (hN : 0 < N) (cycles : ℤ) {j : Nat} {t : ℝ} (h0 : j < t) (h1 : t < j + 1) :
    InCell N cycles j (2 * Real.pi * (t / (4 * N))) := by
  intro n
  have hN' : (0 : ℝ) < N := by exact_mod_cast hN
  have hmid : ((cellTurns N j : ℚ) : ℝ) = ((j : ℝ) + 1 / 2) / (4 * N) := by
    rw [cellTurns, Rat.mkRat_eq_div]
    push_cast
    field_simp
    ring
  rw [hmid, ncoCosine_quarters hN, ncoCosine_quarters hN]
  set M : ℤ := 4 * cycles * n - j - 1 with hM
  have hMr : (M : ℝ) = 4 * cycles * n - j - 1 := by rw [hM]; push_cast; ring
  set k := M / N with hk
  have hlow : (N * k : ℝ) ≤ M := by
    exact_mod_cast Int.mul_ediv_self_le (x := M) (k := N) (by omega)
  have hhigh : (M : ℝ) + 1 ≤ N * (k + 1) := by
    have h := Int.lt_mul_ediv_self_add (x := M) (k := N) (by omega)
    exact_mod_cast (by rw [mul_add, mul_one]; exact h : M + 1 ≤ N * (k + 1))
  have hcell : ∀ v : ℝ, j < v → v < j + 1 →
      (k : ℝ) < (4 * cycles * n - v) / N ∧ (4 * cycles * n - v) / N < k + 1 := fun v hv0 hv1 => by
    rw [lt_div_iff₀ hN', div_lt_iff₀ hN']
    constructor <;> linarith
  obtain ⟨ht0, ht1⟩ := hcell t h0 h1
  obtain ⟨hm0, hm1⟩ := hcell (j + 1 / 2) (by linarith) (by linarith)
  exact (cos_pos_or_neg_of_quarter k).imp (fun h => ⟨h _ ht0 ht1, h _ hm0 hm1⟩)
    fun h => ⟨h _ ht0 ht1, h _ hm0 hm1⟩

/-- Every phase that is no rational multiple of `2π` is in one of the `4N` cells. -/
theorem exists_inCell (hN : 0 < N) (cycles : ℤ) {φ : ℝ} (hφ : Irrational (φ / (2 * Real.pi))) :
    ∃ j, j < 4 * N ∧ InCell N cycles j φ := by
  have hN' : (0 : ℝ) < N := by exact_mod_cast hN
  have hpi : (2 * Real.pi) ≠ 0 := by positivity
  set τ : ℝ := φ / (2 * Real.pi) * (4 * N : ℕ) with hτ
  have hirr : Irrational τ := hφ.mul_natCast (by omega)
  have hφτ : φ = 2 * Real.pi * (τ / (4 * N)) := by
    rw [hτ]
    push_cast
    field_simp
  have h0 : (⌊τ⌋ : ℝ) < τ := lt_of_le_of_ne (Int.floor_le τ) fun h => hirr ⟨⌊τ⌋, by exact_mod_cast h⟩
  have h1 : τ < ⌊τ⌋ + 1 := Int.lt_floor_add_one τ
  set m : ℤ := ⌊τ⌋ / (4 * N) with hm
  obtain ⟨j, hj⟩ : ∃ j : ℕ, (j : ℤ) = ⌊τ⌋ % (4 * N) :=
    ⟨(⌊τ⌋ % (4 * N)).toNat, Int.toNat_of_nonneg (Int.emod_nonneg _ (by omega))⟩
  have hfloor : (⌊τ⌋ : ℝ) = 4 * N * m + j := by
    have h := Int.mul_ediv_add_emod ⌊τ⌋ (4 * N)
    rw [← hj, ← hm] at h
    exact_mod_cast h.symm
  have hcell := inCell_of_mem hN cycles (j := j) (t := τ - 4 * N * m) (by linarith) (by linarith)
  have hshift : ∀ n, ncoCosine φ N cycles n
      = ncoCosine (2 * Real.pi * ((τ - 4 * N * m) / (4 * N))) N cycles n := fun n => by
    rw [hφτ, ncoCosine_quarters hN, ncoCosine_quarters hN, ← cos_add_four_mul _ m]
    congr 1
    field_simp
    ring
  refine ⟨j, ?_, fun n => by rw [hshift]; exact hcell n⟩
  have := Int.emod_lt_of_pos ⌊τ⌋ (show (0 : ℤ) < 4 * N by omega)
  omega

section
variable {j : Nat} {φ : ℝ} {n : Nat}

theorem InCell.ne_zero (h : InCell N cycles j φ) : ncoCosine φ N cycles n ≠ 0 :=
  (h n).elim (fun h => h.1.ne') fun h => h.1.ne

/-- The exact evaluation at the middle of a cell gives the sign of every phase in it. -/
theorem InCell.isSignBit (hN : 0 < N) (h : InCell N cycles j φ) (zeroSign : Bool) :
    IsSignBit zeroSign (ncoCosine φ N cycles n) (ncoSample zeroSign (cellTurns N j) N cycles n) := by
  obtain ⟨hpos, hneg, -⟩ := ncoSample_isSignBit (cycles := cycles) hN zeroSign (cellTurns N j) n
  rcases h n with ⟨hx, hmid⟩ | ⟨hx, hmid⟩
  · exact ⟨fun _ => hpos hmid, fun h => absurd h hx.not_gt, fun h => absurd h hx.ne'⟩
  · exact ⟨fun h => absurd h hx.not_gt, fun _ => hneg hmid, fun h => absurd h hx.ne⟩

theorem IsSignBit.eq_true_iff {x : ℝ} {b : Bool} (h : IsSignBit false x b) : b = true ↔ 0 < x := by
  obtain ⟨hpos, hneg, hzero⟩ := h
  refine ⟨fun hb => ?_, hpos⟩
  rcases lt_trichotomy x 0 with hx | hx | hx
  · rw [hneg hx] at hb; cases hb
  · rw [hzero hx] at hb; cases hb
  · exact hx

theorem getElem?_ncoPhaseSamples (cycles : ℤ) (j : Nat) (hn : n < N) :
    (ncoPhaseSamples N cycles j)[n]? = some (ncoSample false (cellTurns N j) N cycles n) := by
  simp [ncoPhaseSamples, hn, cellTurns]

end

theorem ncoAdmits_iff_exists_cell {l : List Bool} :
    ncoAdmits N cycles l = true ↔ ∃ j, j < 4 * N ∧ l = ncoPhaseSamples N cycles j := by
  simp [ncoAdmits]

/-- R103: a list is admitted exactly when it holds the samples of a phase that is no rational multiple of `2π`. -/
theorem ncoAdmits_iff (hN : 0 < N) {l : List Bool} :
    ncoAdmits N cycles l = true ↔ ∃ φ, PresentsPhase N cycles φ (.samples l) := by
  rw [ncoAdmits_iff_exists_cell]
  constructor
  · rintro ⟨j, -, rfl⟩
    obtain ⟨t, hirr, h0, h1⟩ := exists_irrational_btwn (lt_add_one (j : ℝ))
    have hcell := inCell_of_mem hN cycles h0 h1
    refine ⟨2 * Real.pi * (t / (4 * N)), ?_, by simp [ncoPhaseSamples], fun n hn => ?_⟩
    · rw [mul_div_cancel_left₀ _ (by positivity)]
      exact_mod_cast hirr.div_natCast (m := 4 * N) (by omega)
    · rw [getElem?_ncoPhaseSamples cycles j hn, Option.some.injEq]
      exact (hcell.isSignBit hN false).eq_true_iff
  · rintro ⟨φ, hirr, hlen, hl⟩
    obtain ⟨j, hj, hcell⟩ := exists_inCell hN cycles hirr
    refine ⟨j, hj, List.ext_getElem (by simp [hlen, ncoPhaseSamples]) fun n hn hn' => ?_⟩
    have hbit : l[n] = true ↔ ncoSample false (cellTurns N j) N cycles n = true := by
      rw [(hcell.isSignBit hN false).eq_true_iff, ← hl n (hlen ▸ hn), List.getElem?_eq_getElem hn,
        Option.some.injEq]
    have hsample : (ncoPhaseSamples N cycles j)[n] = ncoSample false (cellTurns N j) N cycles n :=
      Option.some.inj ((List.getElem?_eq_getElem hn').symm.trans (getElem?_ncoPhaseSamples cycles j (hlen ▸ hn)))
    rw [hsample]
    exact Bool.eq_iff_iff.mpr hbit

end

/-- Settles O22: a phase is a rational number of turns, or lies in a cell, whose middle has the same samples. -/
theorem ncoEveryRealPhaseIsPresented : Obligations.NcoEveryRealPhaseIsPresented := by
  intro N cycles hN
  have hturns : ∀ φ : ℝ, ¬ Irrational (φ / (2 * Real.pi)) → ∃ q : ℚ, φ = 2 * Real.pi * q := by
    intro φ hφ
    obtain ⟨q, hq⟩ := not_not.mp hφ
    exact ⟨q, by rw [hq]; field_simp⟩
  refine ⟨fun φ => ?_, fun l => ncoAdmits_iff hN, fun φ zeroSign => ?_⟩
  · by_cases hφ : Irrational (φ / (2 * Real.pi))
    · refine ⟨.samples ((List.range N).map fun n => decide (0 < ncoCosine φ N cycles n)), hφ, by simp,
        fun n hn => ?_⟩
      simp [hn]
    · obtain ⟨q, hq⟩ := hturns φ hφ
      exact ⟨.turns q, hq⟩
  · by_cases hφ : Irrational (φ / (2 * Real.pi))
    · obtain ⟨j, -, hcell⟩ := exists_inCell hN cycles hφ
      exact ⟨cellTurns N j, fun n _ => hcell.isSignBit hN zeroSign⟩
    · obtain ⟨q, rfl⟩ := hturns φ hφ
      exact ⟨q, fun n _ => ncoSample_isSignBit hN zeroSign q n⟩

/-! ### The table of a built NCO (R102, R64) -/

theorem testBit_bitsValue (l : List Bool) (i : Nat) : (bitsValue l).testBit i = l.getD i false := by
  induction l generalizing i with
  | nil => simp [bitsValue]
  | cons b l ih =>
    cases i with
    | zero => cases b <;> simp [bitsValue, Nat.testBit_zero]
    | succ i =>
      have hdiv : (b.toNat + 2 * bitsValue l) / 2 = bitsValue l := by
        have := b.toNat_lt
        omega
      rw [bitsValue, Nat.testBit_succ, hdiv, ih, List.getD_cons_succ]

/-- The bit of a word that holds sample `j` of the word in time order (R64). -/
def packedBit (order : PackOrder) (width j : Nat) : Nat :=
  match order with
  | .lsbFirst => j
  | .msbFirst => width - 1 - j

theorem testBit_packWord (order : PackOrder) {l : List Bool} {j : Nat} (hj : j < l.length) :
    (packWord order l).testBit (packedBit order l.length j) = l[j] := by
  cases order with
  | lsbFirst => simp [packWord, packedBit, testBit_bitsValue, hj]
  | msbFirst =>
    have hj' : l.length - 1 - j < l.length := by omega
    simp only [packWord, packedBit, testBit_bitsValue]
    rw [List.getD_eq_getElem _ _ (by simpa using hj'), List.getElem_reverse]
    congr 1
    omega

/-- The sample of a presented phase is the sign of its cosine. -/
theorem ncoSampleOf_isSignBit {p : NcoParams} {N n : Nat} {cycles : ℤ} {φ : ℝ} (hn : n < N)
    (hφ : PresentsPhase N cycles φ p.phase) :
    IsSignBit p.zeroSignBit (ncoCosine φ N cycles n) (ncoSampleOf p N cycles n) := by
  have hN : 0 < N := Nat.zero_lt_of_lt hn
  cases hp : p.phase with
  | turns q =>
    rw [hp] at hφ
    cases hφ
    simp only [ncoSampleOf, hp]
    exact ncoSample_isSignBit hN _ q n
  | samples l =>
    rw [hp] at hφ
    obtain ⟨hirr, hlen, hl⟩ := hφ
    obtain ⟨j, -, hcell⟩ := exists_inCell hN cycles hirr
    have hbit : l.getD n false = true ↔ 0 < ncoCosine φ N cycles n := by
      rw [← hl n hn, List.getD_eq_getElem?_getD]
      simp [hlen, hn]
    simp only [ncoSampleOf, hp]
    exact ⟨hbit.mpr, fun hx => Bool.eq_false_iff.mpr fun h => absurd (hbit.mp h) hx.not_gt,
      fun hx => absurd hx hcell.ne_zero⟩

theorem buildNco_of_exec {s t : State} {c : NcoConfig} (h : exec .ncoBuild s = .next t)
    (hc : t.inst.nco = some c) : buildNco s.params.nco = .ok c := by
  rcases configureWith_eq_next_iff.mp h with ⟨c', hc', rfl⟩ | ⟨cause, -, rfl⟩
  · cases hc; exact hc'
  · cases hc

/-- An NCO is built only for a phase that is presented (R103). -/
theorem exists_presentsPhase_of_admitted {p : NcoParams} {N : Nat} (hN : 0 < N) (h : ncoPhaseAdmitted p N = true) :
    ∃ φ, PresentsPhase N (ncoCycles p N) φ p.phase := by
  cases hp : p.phase with
  | turns q => exact ⟨_, rfl⟩
  | samples l =>
    simp only [ncoPhaseAdmitted, hp] at h
    exact (ncoAdmits_iff hN).mp h

/-- Settles O21: the bit of a word is the sample, and the sample the sign of the cosine of the presented phase. -/
theorem ncoTableHoldsCosineSigns : Obligations.NcoTableHoldsCosineSigns := by
  intro s t c h hc
  obtain ⟨hwidth, hwords, hperiod, hcycles, htable, hadmitted⟩ := buildNco_ok (buildNco_of_exec h hc)
  have hN : 0 < c.period := hperiod ▸ Nat.mul_pos hwords hwidth
  refine ⟨hcycles ▸ exists_presentsPhase_of_admitted hN hadmitted, fun φ hφ k j hk hj => ?_⟩
  have hn : k * c.width + j < c.period := by
    rw [hperiod]
    nlinarith
  have hword : c.table[k]? = some (ncoWord s.params.nco c.width c.period c.cycles k) := by
    rw [htable] at hk ⊢
    rw [length_ncoTable] at hk
    simp [ncoTable, hk]
  have hbit := testBit_packWord s.params.nco.packOrder
    (l := (List.range c.width).map fun j => ncoSampleOf s.params.nco c.period c.cycles (k * c.width + j))
    (j := j) (by simpa using hj)
  simp only [List.length_map, List.length_range, List.getElem_map, List.getElem_range] at hbit
  have hsign := ncoSampleOf_isSignBit hn hφ
  rw [← hbit] at hsign
  exact ⟨_, hword, hsign⟩

end Sys2Proof.Proofs
end

section
/-! What `RST` does in an operation, in a place and in a tick (R30), and the statements about the state at reset and
about the environment's other statements. -/

namespace Sys2Proof.Proofs

open Sys2Proof.Machine Sys2Proof.Safety

/-- Settles O10: no statement but a tick of a domain that exists runs an operation of a unit. -/
theorem otherStatementsOfTheEnvironment : Obligations.OtherStatementsOfTheEnvironment := by
  refine ⟨fun s hs => step_nil hs, fun s n levels rest hs hd => ?_, fun s u rest hs => ?_⟩
  · simp only [step_cons hs, stepStim, stepTick, hd]
  · rw [step_cons hs]
    cases u <;> rfl

/-- Settles O11: the values of `State.reset` are written out. -/
theorem resetLeavesInitialValues : Obligations.ResetLeavesInitialValues :=
  ⟨rfl, rfl, rfl, rfl, rfl, rfl, rfl, rfl, rfl, rfl, rfl, by decide⟩

/-! ### `RST` of each unit (R21, R30) -/

section
variable {s : State} {x : RstFields}

theorem exec_rst_nco {c : NcoConfig} (hc : s.inst.nco = some c) :
    exec (.rst .nco x) s = .next (s.writeNco ncoResetRegs) :=
  withConfig_eq_next_iff.mpr ⟨c, hc, rfl⟩

theorem exec_rst_matcher {c : MatchConfig} (hc : s.inst.matcher = some c) :
    exec (.rst .matcher x) s = .next (s.writeMatch (matchResetRegs c)) :=
  withConfig_eq_next_iff.mpr ⟨c, hc, rfl⟩

theorem exec_rst_acq {c : AcqConfig} (hc : s.inst.acq = some c) :
    exec (.rst .acq x) s = .next (s.writeAcq acqResetRegs) :=
  withConfig_eq_next_iff.mpr ⟨c, hc, rfl⟩

theorem exec_rst_cordic {c : CordicConfig} (hc : s.inst.cordic = some c) :
    exec (.rst .cordic x) s = .next (s.writeCordic (cordicResetRegs c)) :=
  withConfig_eq_next_iff.mpr ⟨c, hc, rfl⟩

theorem exec_rst_seq {c : SeqConfig} (hc : s.inst.seq = some c) :
    exec (.rst .seq x) s = .next (s.writeSeq seqResetRegs) :=
  withConfig_eq_next_iff.mpr ⟨c, hc, rfl⟩

end

section
variable {s : State} {x : RstFields} {c : TxiConfig} (hc : s.inst.txi = some c)
include hc

theorem exec_rst_txi : exec (.rst .txi x) s = .next (s.writeTxiState .powerDown) :=
  withConfig_eq_next_iff.mpr ⟨c, hc, rfl⟩

theorem exec_rst_txiSync (hfocus : s.focus = .tx) :
    exec (.rst .sync2 x) s = .next (s.writeTxiSync txiSyncReset) :=
  withLink_eq_next_iff.mpr (.inl ⟨hfocus, c, hc, rfl⟩)

theorem exec_rst_txiDegl (hfocus : s.focus = .tx) :
    exec (.rst .degl x) s = .next (s.writeTxiDegl txiDeglReset) :=
  withLink_eq_next_iff.mpr (.inl ⟨hfocus, c, hc, rfl⟩)

theorem exec_rst_txiCount (hfocus : s.focus = .tx) :
    exec (.rst .wtmr x) s = .next (s.writeTxiCount c.timerTicks) :=
  withLink_eq_next_iff.mpr (.inl ⟨hfocus, c, hc, rfl⟩)

theorem exec_rst_txiWd (hfocus : s.focus = .tx) : exec (.rst .wdog x) s = .next (s.writeTxiWd 0) :=
  withLink_eq_next_iff.mpr (.inl ⟨hfocus, c, hc, rfl⟩)

end

section
variable {s : State} {x : RstFields} {c : RxiConfig} (hc : s.inst.rxi = some c)
include hc

theorem exec_rst_rxi :
    exec (.rst .rxi x) s = .next (((s.writeRxiState .powerDown).writeDrpvalue 0).writePmadone false) :=
  withConfig_eq_next_iff.mpr ⟨c, hc, rfl⟩

theorem exec_rst_rxiSync (hfocus : s.focus = .rx) :
    exec (.rst .sync2 x) s = .next (s.writeRxiSync rxiSyncReset) :=
  withLink_eq_next_iff.mpr (.inr ⟨hfocus, c, hc, rfl⟩)

theorem exec_rst_rxiDegl (hfocus : s.focus = .rx) :
    exec (.rst .degl x) s = .next (s.writeRxiDegl rxiDeglReset) :=
  withLink_eq_next_iff.mpr (.inr ⟨hfocus, c, hc, rfl⟩)

theorem exec_rst_rxiCount (hfocus : s.focus = .rx) :
    exec (.rst .wtmr x) s = .next (s.writeRxiCount c.timerTicks) :=
  withLink_eq_next_iff.mpr (.inr ⟨hfocus, c, hc, rfl⟩)

theorem exec_rst_rxiWd (hfocus : s.focus = .rx) : exec (.rst .wdog x) s = .next (s.writeRxiWd 0) :=
  withLink_eq_next_iff.mpr (.inr ⟨hfocus, c, hc, rfl⟩)

end

/-- Settles O15: a configured unit's `RST` is its one write of R30, a primitive's that of the TXI or RXI in focus. -/
theorem rstResult : Obligations.RstResult :=
  fun _ _ =>
    ⟨fun _ hc => exec_rst_nco hc, fun _ hc => exec_rst_matcher hc, fun _ hc => exec_rst_acq hc,
      fun _ hc => exec_rst_cordic hc, fun _ hc => exec_rst_seq hc,
      fun _ hc => ⟨exec_rst_txi hc, fun hfocus => ⟨exec_rst_txiSync hc hfocus, exec_rst_txiDegl hc hfocus,
        exec_rst_txiCount hc hfocus, exec_rst_txiWd hc hfocus⟩⟩,
      fun _ hc => ⟨exec_rst_rxi hc, fun hfocus => ⟨exec_rst_rxiSync hc hfocus, exec_rst_rxiDegl hc hfocus,
        exec_rst_rxiCount hc hfocus, exec_rst_rxiWd hc hfocus⟩⟩⟩

/-! ### A tick seen from one of its places -/

/-- The state at the start of the tick from `s` to `t`: the registers of `s` under the levels of the tick, which `t`
still shows. -/
def tickStart (s t : State) : State := { t with regs := s.regs, next := s.next }

section
variable {s t : State} {n : Nat} {levels : List PortLevel} {rest : List Stim}

/-- A tick takes the registers on by the writes of the present places of its domain. -/
theorem step_tick_writes (hs : s.script = .tick n levels :: rest) (h : step s = .next t) :
    TickWrites (tickStart s t) (rstLevel t n)
      ((members s n).filter ((tickStart s t).present (rstLevel t n))) s.regs t.regs := by
  rcases step_tick_cases hs h with ⟨hd, rfl⟩ | ⟨d, m, hd, hm, rfl⟩
  · have hnone : members s n = [] := by simp [members, hd]
    rw [hnone]
    exact .nil _
  · obtain ⟨hn, -⟩ := List.getElem?_eq_some_iff.mp hd
    have hrst : rstLevel { withLevels n d levels { s with script := rest } with regs := m, next := m } n
        = (domainLevels d levels).rst := by
      simp [rstLevel, hn]
    rw [hrst, members_of_getElem? hd]
    exact hm

/-- A tick leaves the instances as they are (R270). -/
theorem step_tick_inst (hs : s.script = .tick n levels :: rest) (h : step s = .next t) : t.inst = s.inst := by
  rcases step_tick_cases hs h with ⟨-, rfl⟩ | ⟨d, m, -, -, rfl⟩ <;> rfl

/-- A tick moves no place to another domain. -/
theorem step_tick_members (hs : s.script = .tick n levels :: rest) (h : step s = .next t) :
    members t n = members s n := by
  rcases step_tick_cases hs h with ⟨-, rfl⟩ | ⟨d, m, hd, -, rfl⟩
  · rfl
  · obtain ⟨hn, -⟩ := List.getElem?_eq_some_iff.mp hd
    rw [members_of_getElem? hd]
    simp [members, hn]

end

section
variable {s : State} {rst : Level} {p : Slot} {ps : List Slot} {n m : Regs}

/-- The operation of a place may be run as the last of its tick (R68 (d)), so that what it writes is what lands. -/
theorem TickWrites.exec_last (h : TickWrites s rst ps n m) (hp : p ∈ ps) :
    ∃ k v w, exec (slotOperation s rst p) ((running s k v).focusSlot p) = .next (running s m w) := by
  have hperm : ps.Perm (ps.erase p ++ [p]) :=
    (List.perm_cons_erase hp).trans (List.perm_append_singleton p _).symm
  obtain ⟨w, hw⟩ := (h.perm hperm).runSlots_eq .tx
  rw [runSlots_append, andThen_eq_next_iff] at hw
  obtain ⟨u, hu, hlast⟩ := hw
  obtain ⟨-, hu⟩ := tickWrites_of_runSlots hu
  rw [runSlots_singleton, hu, runSlot_eq_exec, slotOperation_congr rfl (SameRegs.refl _ _)] at hlast
  exact ⟨u.next, u.focus, w, hlast⟩

/-- A place that stands takes part in a tick with the domain's reset held, in which nothing reads `match` (R30). -/
theorem mem_present_of_rst {l : List Slot} (hp : p ∈ l) (hstands : s.stands p = true) :
    p ∈ l.filter (s.present true) := by
  have hmatch : s.readsMatch true p = false := by cases p <;> rfl
  exact List.mem_filter.mpr ⟨hp, by simp [State.present, hstands, hmatch]⟩

/-- Only the place of the watchdog writes the `wd` of a TXI (R185). -/
theorem PlaceWrite.txi_wd {i : Instances} {r : Regs} {f : Regs → Regs} (hf : PlaceWrite i r p f)
    (hp : p ≠ .link .tx .wdog) (n : Regs) : (f n).txi.wd = n.txi.wd := by
  cases hf with
  | txi c hc a f hf =>
    cases hf with
    | noWatchdog | watchdog | restart => exact absurd rfl hp
    | _ => rfl
  | _ => rfl

/-- Only the place of the watchdog writes the `wd` of an RXI (R185). -/
theorem PlaceWrite.rxi_wd {i : Instances} {r : Regs} {f : Regs → Regs} (hf : PlaceWrite i r p f)
    (hp : p ≠ .link .rx .wdog) (n : Regs) : (f n).rxi.wd = n.rxi.wd := by
  cases hf with
  | rxi c hc a f hf =>
    cases hf with
    | noWatchdog | watchdog | restart => exact absurd rfl hp
    | _ => rfl
  | _ => rfl

/-- What no place of a tick writes stays as it was. -/
theorem TickWrites.unwritten {α : Type} (h : TickWrites s rst ps n m) (get : Regs → α)
    (hget : ∀ p ∈ ps, ∀ f, PlaceWrite s.inst s.regs p f → ∀ n, get (f n) = get n) : get m = get n := by
  induction h with
  | nil => rfl
  | cons head _ ih =>
    exact (ih fun q hq => hget q (List.mem_cons_of_mem _ hq)).trans (hget _ List.mem_cons_self _ head.write _)

end

/-! ### One tick with the reset of the domain held (R30) -/

section
variable {α : Type} {s : State} {l : List Slot} {p : Slot} {n m : Regs}

/-- What `RST` writes at a place that stands is what lands. -/
theorem TickWrites.lands_of_rst (h : TickWrites s true (l.filter (s.present true)) n m) (hp : p ∈ l)
    (hstands : s.stands p = true) (get : Regs → α) {r : α}
    (hrst : ∀ k v x, ∃ u, exec (.rst (slotUnit p) x) ((running s k v).focusSlot p) = .next u ∧ get u.next = r) :
    get m = r := by
  obtain ⟨k, v, w, hlast⟩ := h.exec_last (mem_present_of_rst hp hstands)
  obtain ⟨u, hu, hget⟩ := hrst k v ⟨slotClr s p, slotCode s p⟩
  obtain rfl : u = running s m w := Host.Outcome.next.inj (hu.symm.trans hlast)
  exact hget

/-- Every part of a TXI is reset by its own `RST`; a watchdog that is not configured has none. -/
theorem TickWrites.txi_of_rst {c : TxiConfig} (h : TickWrites s true (l.filter (s.present true)) n m)
    (hl : linkSlots .tx ⊆ l) (hc : s.inst.txi = some c) :
    m.txi = ⟨.powerDown, txiSyncReset, txiDeglReset, c.timerTicks, if c.watchdog.isSome then 0 else n.txi.wd⟩ := by
  have hmem : ∀ a, .link .tx a ∈ l := fun a => hl (by cases a <;> decide)
  have hsome : s.inst.txi.isSome = true := hc ▸ rfl
  have hstate : m.txi.state = .powerDown :=
    h.lands_of_rst (hmem .fsm) hsome (·.txi.state) fun _ _ _ => ⟨_, exec_rst_txi hc, rfl⟩
  have hsync : m.txi.sync = txiSyncReset :=
    h.lands_of_rst (hmem .sync2) hsome (·.txi.sync) fun _ _ _ => ⟨_, exec_rst_txiSync hc rfl, rfl⟩
  have hdegl : m.txi.degl = txiDeglReset :=
    h.lands_of_rst (hmem .degl) hsome (·.txi.degl) fun _ _ _ => ⟨_, exec_rst_txiDegl hc rfl, rfl⟩
  have hcount : m.txi.count = c.timerTicks :=
    h.lands_of_rst (hmem .wtmr) hsome (·.txi.count) fun _ _ _ => ⟨_, exec_rst_txiCount hc rfl, rfl⟩
  have hstands : s.stands (.link .tx .wdog) = c.watchdog.isSome := by simp [State.stands, hc]
  have hwd : m.txi.wd = if c.watchdog.isSome then 0 else n.txi.wd := by
    split
    case isTrue hw =>
      exact h.lands_of_rst (hmem .wdog) (hstands.trans hw) (·.txi.wd) fun _ _ _ => ⟨_, exec_rst_txiWd hc rfl, rfl⟩
    case isFalse hw =>
      refine h.unwritten (·.txi.wd) fun p hp f hf => hf.txi_wd ?_
      rintro rfl
      exact hw (hstands ▸ (Bool.and_eq_true_iff.mp (List.mem_filter.mp hp).2).1)
  rw [← hstate, ← hsync, ← hdegl, ← hcount, ← hwd]

/-- Every part of an RXI is reset by its own `RST`; a watchdog that is not configured has none. -/
theorem TickWrites.rxi_of_rst {c : RxiConfig} (h : TickWrites s true (l.filter (s.present true)) n m)
    (hl : linkSlots .rx ⊆ l) (hc : s.inst.rxi = some c) :
    m.rxi = ⟨.powerDown, 0, false, rxiSyncReset, rxiDeglReset, c.timerTicks,
      if c.watchdog.isSome then 0 else n.rxi.wd⟩ := by
  have hmem : ∀ a, .link .rx a ∈ l := fun a => hl (by cases a <;> decide)
  have hsome : s.inst.rxi.isSome = true := hc ▸ rfl
  have hrst := fun k v x => exec_rst_rxi (s := (running s k v).focusSlot (.link .rx .fsm)) (x := x) hc
  have hstate : m.rxi.state = .powerDown :=
    h.lands_of_rst (hmem .fsm) hsome (·.rxi.state) fun k v x => ⟨_, hrst k v x, rfl⟩
  have hdrpvalue : m.rxi.drpvalue = 0 :=
    h.lands_of_rst (hmem .fsm) hsome (·.rxi.drpvalue) fun k v x => ⟨_, hrst k v x, rfl⟩
  have hpmadone : m.rxi.pmadoneR = false :=
    h.lands_of_rst (hmem .fsm) hsome (·.rxi.pmadoneR) fun k v x => ⟨_, hrst k v x, rfl⟩
  have hsync : m.rxi.sync = rxiSyncReset :=
    h.lands_of_rst (hmem .sync2) hsome (·.rxi.sync) fun _ _ _ => ⟨_, exec_rst_rxiSync hc rfl, rfl⟩
  have hdegl : m.rxi.degl = rxiDeglReset :=
    h.lands_of_rst (hmem .degl) hsome (·.rxi.degl) fun _ _ _ => ⟨_, exec_rst_rxiDegl hc rfl, rfl⟩
  have hcount : m.rxi.count = c.timerTicks :=
    h.lands_of_rst (hmem .wtmr) hsome (·.rxi.count) fun _ _ _ => ⟨_, exec_rst_rxiCount hc rfl, rfl⟩
  have hstands : s.stands (.link .rx .wdog) = c.watchdog.isSome := by simp [State.stands, hc]
  have hwd : m.rxi.wd = if c.watchdog.isSome then 0 else n.rxi.wd := by
    split
    case isTrue hw =>
      exact h.lands_of_rst (hmem .wdog) (hstands.trans hw) (·.rxi.wd) fun _ _ _ => ⟨_, exec_rst_rxiWd hc rfl, rfl⟩
    case isFalse hw =>
      refine h.unwritten (·.rxi.wd) fun p hp f hf => hf.rxi_wd ?_
      rintro rfl
      exact hw (hstands ▸ (Bool.and_eq_true_iff.mp (List.mem_filter.mp hp).2).1)
  rw [← hstate, ← hdrpvalue, ← hpmadone, ← hsync, ← hdegl, ← hcount, ← hwd]

end

/-- Settles O16: each place's `RST` may be taken as the last operation of the tick. -/
theorem domainResetRestoresRegisters : Obligations.DomainResetRestoresRegisters := by
  intro s t n levels rest hs h hrst
  have hw := step_tick_writes hs h
  rw [hrst] at hw
  have hinst : (tickStart s t).inst = s.inst := (step_tick_inst hs h : t.inst = s.inst)
  rw [← hinst]
  exact ⟨
    fun c hmem hc => hw.lands_of_rst hmem (Option.isSome_of_eq_some hc) (·.nco)
      fun _ _ _ => ⟨_, exec_rst_nco hc, rfl⟩,
    fun c hmem hc => hw.lands_of_rst hmem (Option.isSome_of_eq_some hc) (·.matcher)
      fun _ _ _ => ⟨_, exec_rst_matcher hc, rfl⟩,
    fun c hmem hc => hw.lands_of_rst hmem (Option.isSome_of_eq_some hc) (·.acq)
      fun _ _ _ => ⟨_, exec_rst_acq hc, rfl⟩,
    fun c hmem hc => hw.lands_of_rst hmem (Option.isSome_of_eq_some hc) (·.cordic)
      fun _ _ _ => ⟨_, exec_rst_cordic hc, rfl⟩,
    fun c hmem hc => hw.lands_of_rst hmem (Option.isSome_of_eq_some hc) (·.seq)
      fun _ _ _ => ⟨_, exec_rst_seq hc, rfl⟩,
    fun c hmem hc => hw.txi_of_rst hmem hc,
    fun c hmem hc => hw.rxi_of_rst hmem hc⟩

end Sys2Proof.Proofs
end

section
/-! The CORDIC pipeline tick by tick, and the bound of R147 (a) on the vectors of its ranks. -/

namespace Sys2Proof.Proofs

open Sys2Proof.Machine Sys2Proof.Safety

/-! ### The pipeline in a tick and in a run -/

/-- The registers after `CORDIC.TICK`, `last` being the rank `P[S]` (R144). -/
def cordicTicked (c : CordicConfig) (i : Inputs) (r : CordicRegs) (last : Rank) : CordicRegs :=
  ⟨cordicNextRanks c i r.ranks, last.x, cordicFinalAngle c last⟩

theorem execCordicTick_eq_next_iff {s t : State} {c : CordicConfig} (hc : s.inst.cordic = some c) :
    execCordicTick s = .next t ↔ ∃ last, s.regs.cordic.ranks[c.stages]? = some last ∧
      t = s.writeCordic (cordicTicked c s.inputs s.regs.cordic last) := by
  rw [execCordicTick, hc, withConfig_some]
  cases s.regs.cordic.ranks[c.stages]? with
  | none => simp
  | some last => simp [cordicTicked, eq_comm]

section
variable {s t : State} {d n : Nat} {levels : List PortLevel} {rest : List Stim} {σ : Nat → State} {c : CordicConfig}

/-- What a tick makes of the registers of a configured pipeline. -/
theorem step_tick_cordic (hs : s.script = .tick d levels :: rest) (h : step s = .next t)
    (hmem : .cordic ∈ members s d) (hc : s.inst.cordic = some c) :
    (rstLevel t d = true ∧ t.regs.cordic = cordicResetRegs c) ∨
    (rstLevel t d = false ∧ ∃ last, s.regs.cordic.ranks[c.stages]? = some last ∧
      t.regs.cordic = cordicTicked c t.inputs s.regs.cordic last) := by
  have hw := step_tick_writes hs h
  have hc' : (tickStart s t).inst.cordic = some c := (congrArg Instances.cordic (step_tick_inst hs h)).trans hc
  cases hrst : rstLevel t d with
  | true =>
    rw [hrst] at hw
    exact .inl ⟨rfl, hw.lands_of_rst hmem (Option.isSome_of_eq_some hc') (·.cordic)
      fun _ _ _ => ⟨_, exec_rst_cordic hc', rfl⟩⟩
  | false =>
    have hpresent : (tickStart s t).present false .cordic = true := by
      simp [State.present, State.stands, State.readsMatch, hc']
    rw [hrst] at hw
    obtain ⟨k, v, w, hlast⟩ := hw.exec_last (List.mem_filter.mpr ⟨hmem, hpresent⟩)
    obtain ⟨last, hranks, hu⟩ :=
      (execCordicTick_eq_next_iff (s := running (tickStart s t) k v) hc').mp hlast
    exact .inr ⟨rfl, last, hranks, congrArg (·.next.cordic) hu⟩

/-- The instances and the places of the domain are the same throughout a run. -/
theorem TickRun.inst_members (hrun : TickRun d n σ) {k : Nat} (hk : k ≤ n) :
    (σ k).inst = (σ 0).inst ∧ members (σ k) d = members (σ 0) d := by
  induction k with
  | zero => exact ⟨rfl, rfl⟩
  | succ k ih =>
    obtain ⟨⟨levels, rest, hs⟩, h⟩ := hrun k hk
    obtain ⟨hinst, hmem⟩ := ih (Nat.le_of_succ_le hk)
    exact ⟨(step_tick_inst hs h).trans hinst, (step_tick_members hs h).trans hmem⟩

/-- What holds of a pipeline's reset registers and is kept by `CORDIC.TICK` holds throughout a run from
reset, with and without `rst`. -/
theorem TickRun.cordic_induction {P : CordicRegs → Prop} (hrun : TickRun d n σ)
    (hmem : .cordic ∈ members (σ 0) d) (hc : (σ 0).inst.cordic = some c)
    (hstart : (σ 0).regs.cordic = cordicResetRegs c) (hreset : P (cordicResetRegs c))
    (htick : ∀ i r last, r.ranks[c.stages]? = some last → P r → P (cordicTicked c i r last)) :
    ∀ t, t ≤ n → P (σ t).regs.cordic := by
  intro t
  induction t with
  | zero => exact fun _ => hstart ▸ hreset
  | succ t ih =>
    intro ht
    obtain ⟨⟨levels, rest, hs⟩, h⟩ := hrun t ht
    obtain ⟨hinst, hmembers⟩ := TickRun.inst_members hrun (Nat.le_of_succ_le ht)
    rcases step_tick_cordic hs h (hmembers ▸ hmem) (hinst ▸ hc) with ⟨-, hr⟩ | ⟨-, last, hlast, hr⟩
    · exact hr ▸ hreset
    · exact hr ▸ htick _ _ last hlast (ih (Nat.le_of_succ_le ht))

end

/-- The ranks that `iter_i` makes, one by one (R144). -/
theorem getElem?_cordicIterFrom_eq_some_iff {first i : Nat} {ds : List ℤ} {rs : List Rank} {r : Rank} :
    (cordicIterFrom first ds rs)[i]? = some r ↔
      ∃ δ q, ds[i]? = some δ ∧ rs[i]? = some q ∧ r = cordicIter (first + i) δ q := by
  induction ds generalizing first i rs with
  | nil => simp [cordicIterFrom]
  | cons δ ds ih =>
    cases rs with
    | nil => simp [cordicIterFrom]
    | cons q rs =>
      cases i with
      | zero => simp [cordicIterFrom, eq_comm]
      | succ i => simp [cordicIterFrom, ih, Nat.add_right_comm, Nat.add_assoc]

/-! ### One stage function: the length of the vector (R147 (a)) -/

/-- The vector `(x, y)` of a rank, as a complex number. -/
def rankVector (r : Rank) : ℂ := ⟨r.x, r.y⟩

/-- The arithmetic shift is off by at most 1. -/
theorem abs_asr_sub_le (v : ℤ) (i : Nat) : |(asr v i : ℝ) - v * (1 / 2) ^ i| ≤ 1 := by
  have hpos : (0 : ℤ) < 2 ^ i := by positivity
  have hhalf : (0 : ℝ) < (1 / 2) ^ i := by positivity
  have hcancel : (2 : ℝ) ^ i * (1 / 2) ^ i = 1 := by rw [← mul_pow]; norm_num
  have hlow : (asr v i * 2 ^ i : ℝ) ≤ v := by exact_mod_cast Int.ediv_mul_le v hpos.ne'
  have hhigh : (v : ℝ) < (asr v i + 1) * 2 ^ i := by exact_mod_cast Int.lt_ediv_add_one_mul_self v hpos
  have hlow' := mul_le_mul_of_nonneg_right hlow hhalf.le
  have hhigh' := mul_lt_mul_of_pos_right hhigh hhalf
  rw [mul_assoc, hcancel] at hlow' hhigh'
  rw [abs_le]
  constructor <;> linarith

theorem norm_mk_le {a b m : ℝ} (ha : |a| ≤ m) (hb : |b| ≤ m) : ‖(⟨a, b⟩ : ℂ)‖ ≤ √2 * m :=
  (Complex.norm_le_sqrt_two_mul_max _).trans
    (mul_le_mul_of_nonneg_left (max_le ha hb) (Real.sqrt_nonneg 2))

/-- Multiplying `x + iy` by `1 - it` rotates and stretches it; the shifts put an error of 1 on each coordinate. -/
theorem norm_rotate_le {x y t a b : ℝ} (ha : |a - y * t| ≤ 1) (hb : |b - x * t| ≤ 1) :
    ‖(⟨x + a, y - b⟩ : ℂ)‖ ≤ √(1 + t ^ 2) * ‖(⟨x, y⟩ : ℂ)‖ + √2 := by
  have hsplit : (⟨x + a, y - b⟩ : ℂ) = ⟨1, -t⟩ * ⟨x, y⟩ + ⟨a - y * t, x * t - b⟩ := by
    apply Complex.ext <;> simp <;> ring
  have hstretch : ‖(⟨1, -t⟩ : ℂ)‖ = √(1 + t ^ 2) := by
    rw [Complex.norm_eq_sqrt_sq_add_sq]; simp
  have herror : ‖(⟨a - y * t, x * t - b⟩ : ℂ)‖ ≤ √2 := by
    simpa using norm_mk_le ha (abs_sub_comm b (x * t) ▸ hb)
  calc ‖(⟨x + a, y - b⟩ : ℂ)‖
      ≤ ‖(⟨1, -t⟩ * ⟨x, y⟩ : ℂ)‖ + ‖(⟨a - y * t, x * t - b⟩ : ℂ)‖ := hsplit ▸ norm_add_le _ _
    _ ≤ √(1 + t ^ 2) * ‖(⟨x, y⟩ : ℂ)‖ + √2 := by rw [norm_mul, hstretch]; gcongr

/-- `|v_{k+1}| <= g_k * |v_k| + sqrt 2`. -/
theorem norm_cordicIter_le (i : Nat) (δ : ℤ) (r : Rank) :
    ‖rankVector (cordicIter i δ r)‖ ≤ √(1 + (1 / 4) ^ i) * ‖rankVector r‖ + √2 := by
  have hx := abs_asr_sub_le r.x i
  have hy := abs_asr_sub_le r.y i
  have hsq : ((1 / 2 : ℝ) ^ i) ^ 2 = (1 / 4) ^ i := by rw [← pow_mul, mul_comm, pow_mul]; norm_num
  rw [cordicIter, ← hsq]
  split
  case isTrue =>
    have h := norm_rotate_le (x := r.x) (y := r.y) (t := -(1 / 2) ^ i) (a := -asr r.y i) (b := -asr r.x i)
      (by rw [← abs_neg]; convert hy using 2; ring) (by rw [← abs_neg]; convert hx using 2; ring)
    simpa [rankVector, sub_eq_add_neg] using h
  case isFalse =>
    simpa [rankVector] using norm_rotate_le hy hx

theorem norm_cordicFlip_le {x y : ℤ} {m : ℝ} (hx : |(x : ℝ)| ≤ m) (hy : |(y : ℝ)| ≤ m) :
    ‖rankVector (cordicFlip x y)‖ ≤ √2 * m := by
  rw [cordicFlip]
  split
  · simpa [rankVector] using norm_mk_le (a := -x) (by rwa [abs_neg]) hy
  · exact norm_mk_le hx hy

/-- A signed port of `B` bits carries no more than `2^(B-1)` in either direction (R146). -/
theorem abs_signedPort_le {n : Nat} (hn : 1 ≤ n) (v : ℤ) : |(signedPort n v : ℝ)| ≤ 2 ^ (n - 1) := by
  obtain ⟨m, rfl⟩ := Nat.exists_eq_add_of_le' hn
  have hpos : 0 < 2 ^ (m + 1) := by positivity
  have hlow := Int.le_bmod (x := v) hpos
  have hhigh := Int.bmod_lt (x := v) hpos
  have hbound : |signedPort (m + 1) v| ≤ 2 ^ m := by
    rw [signedPort, abs_le]
    push_cast [pow_succ] at hlow hhigh ⊢
    omega
  exact_mod_cast hbound

/-! ### All ranks -/

/-- The gain of the first `k` iterations, `g_0 * ... * g_{k-1}` with `g_i = sqrt (1 + 2^-2i)` (R147 (a)). -/
noncomputable def cordicGain (k : Nat) : ℝ := ∏ i ∈ Finset.range k, √(1 + (1 / 4) ^ i)

theorem cordicGain_zero : cordicGain 0 = 1 := Finset.prod_range_zero _

theorem cordicGain_succ (k : Nat) : cordicGain (k + 1) = cordicGain k * √(1 + (1 / 4) ^ k) :=
  Finset.prod_range_succ _ _

theorem one_le_cordicGain (k : Nat) : 1 ≤ cordicGain k :=
  Finset.one_le_prod fun i _ => Real.one_le_sqrt.mpr (le_add_of_nonneg_right (by positivity))

theorem cordicGain_succ_sq (k : Nat) : cordicGain (k + 1) ^ 2 = cordicGain k ^ 2 * (1 + (1 / 4) ^ k) := by
  rw [cordicGain_succ, mul_pow, Real.sq_sqrt (by positivity)]

/-- The factor on the left makes up for the iterations to come. -/
theorem cordicGain_succ_sq_mul_le (k : Nat) : cordicGain (k + 1) ^ 2 * (1 + 4 / 11 * (1 / 4) ^ k) ≤ 30 / 11 := by
  induction k with
  | zero => rw [cordicGain_succ_sq, cordicGain_zero]; norm_num
  | succ k ih =>
    have hu0 : (0 : ℝ) ≤ (1 / 4) ^ k := by positivity
    have hu1 : (1 / 4 : ℝ) ^ k ≤ 1 := pow_le_one₀ (by norm_num) (by norm_num)
    have hfactor : (1 + (1 / 4 : ℝ) ^ (k + 1)) * (1 + 4 / 11 * (1 / 4) ^ (k + 1)) ≤ 1 + 4 / 11 * (1 / 4) ^ k := by
      rw [pow_succ]; nlinarith
    calc cordicGain (k + 1 + 1) ^ 2 * (1 + 4 / 11 * (1 / 4) ^ (k + 1))
        = cordicGain (k + 1) ^ 2 * ((1 + (1 / 4) ^ (k + 1)) * (1 + 4 / 11 * (1 / 4) ^ (k + 1))) := by
          rw [cordicGain_succ_sq (k + 1), mul_assoc]
      _ ≤ cordicGain (k + 1) ^ 2 * (1 + 4 / 11 * (1 / 4) ^ k) := by gcongr
      _ ≤ 30 / 11 := ih

/-- The gain stays below 1.652. Its limit is 1.64677 (R147 (a)), and any bound up to `4 / (1.7 * sqrt 2)` serves R28. -/
theorem cordicGain_sq_le (k : Nat) : cordicGain k ^ 2 ≤ 30 / 11 := by
  cases k with
  | zero => rw [cordicGain_zero]; norm_num
  | succ k =>
    refine le_trans (le_mul_of_one_le_right (sq_nonneg _) ?_) (cordicGain_succ_sq_mul_le k)
    exact le_add_of_nonneg_right (by positivity)

/-- The bound of R147 (a) on the length of the vector of rank `k`: `A_k * (sqrt 2 * 2^(B-1) + sqrt 2 * k)`. -/
noncomputable def rankBound (c : CordicConfig) (k : Nat) : ℝ :=
  √2 * cordicGain k * (2 ^ (c.bitDepth - 1) + k)

/-- There are no ranks above `P[S]`, and the vector of each rank satisfies its bound. -/
def RanksBounded (c : CordicConfig) (r : CordicRegs) : Prop :=
  ∀ k q, r.ranks[k]? = some q → k ≤ c.stages ∧ ‖rankVector q‖ ≤ rankBound c k

section
variable {c : CordicConfig}

theorem rankBound_nonneg (c : CordicConfig) (k : Nat) : 0 ≤ rankBound c k := by
  have := one_le_cordicGain k
  rw [rankBound]
  positivity

/-- One more iteration takes a vector within the bound of its rank to one within the bound of the next. -/
theorem rankBound_succ_ge (c : CordicConfig) (k : Nat) :
    √(1 + (1 / 4) ^ k) * rankBound c k + √2 ≤ rankBound c (k + 1) := by
  have hgain : √2 ≤ √2 * cordicGain (k + 1) :=
    le_mul_of_one_le_right (Real.sqrt_nonneg 2) (one_le_cordicGain _)
  calc √(1 + (1 / 4) ^ k) * rankBound c k + √2
      = √2 * cordicGain (k + 1) * (2 ^ (c.bitDepth - 1) + k) + √2 := by rw [rankBound, cordicGain_succ]; ring
    _ ≤ √2 * cordicGain (k + 1) * (2 ^ (c.bitDepth - 1) + k) + √2 * cordicGain (k + 1) := by gcongr
    _ = rankBound c (k + 1) := by rw [rankBound]; push_cast; ring

theorem ranksBounded_reset (c : CordicConfig) : RanksBounded c (cordicResetRegs c) := by
  intro k q hq
  simp only [cordicResetRegs, List.getElem?_replicate, Option.ite_none_right_eq_some, Option.some.injEq] at hq
  obtain ⟨hk, rfl⟩ := hq
  have hzero : rankVector ⟨0, 0, 0, false⟩ = 0 := by simp [rankVector, Complex.ext_iff]
  exact ⟨Nat.le_of_lt_succ hk, by rw [hzero, norm_zero]; exact rankBound_nonneg c k⟩

/-- R147 (a), rank by rank: `flip` of the ports at the first, an iteration of the rank before at each other. -/
theorem RanksBounded.ticked (hbits : 1 ≤ c.bitDepth) (hdelta : c.delta.length = c.stages) {r : CordicRegs}
    (h : RanksBounded c r) (i : Inputs) (last : Rank) : RanksBounded c (cordicTicked c i r last) := by
  intro k q hq
  cases k with
  | zero =>
    obtain rfl : cordicFlip (cordicPortX c i) (cordicPortY c i) = q := Option.some.inj hq
    have hflip := norm_cordicFlip_le (abs_signedPort_le hbits i.cordicX) (abs_signedPort_le hbits i.cordicY)
    exact ⟨Nat.zero_le _, by simpa [rankBound, cordicGain_zero, cordicPortX, cordicPortY] using hflip⟩
  | succ k =>
    obtain ⟨δ, p, hδ, hp, rfl⟩ := getElem?_cordicIterFrom_eq_some_iff.mp hq
    obtain ⟨hk, -⟩ := List.getElem?_eq_some_iff.mp hδ
    obtain ⟨-, hbound⟩ := h k p hp
    refine ⟨hdelta ▸ hk, ?_⟩
    rw [Nat.zero_add]
    calc ‖rankVector (cordicIter k δ p)‖
        ≤ √(1 + (1 / 4) ^ k) * ‖rankVector p‖ + √2 := norm_cordicIter_le k δ p
      _ ≤ √(1 + (1 / 4) ^ k) * rankBound c k + √2 := by gcongr
      _ ≤ rankBound c (k + 1) := rankBound_succ_ge c k

/-- With `S < 0.7 * 2^(B-1)` every rank's bound is below `2^(B+1)`. -/
theorem rankBound_lt {k : Nat} (hbits : 1 ≤ c.bitDepth) (hstages : 10 * c.stages < 7 * 2 ^ (c.bitDepth - 1))
    (hk : k ≤ c.stages) : rankBound c k < 2 ^ (c.bitDepth + 1) := by
  have hgain : √2 * cordicGain k ≤ 40 / 17 := by
    refine abs_le_of_sq_le_sq' ?_ (by norm_num) |>.2
    rw [mul_pow, Real.sq_sqrt (by norm_num)]
    linarith [cordicGain_sq_le k]
  have hsum : (2 : ℝ) ^ (c.bitDepth - 1) + k < 17 / 10 * 2 ^ (c.bitDepth - 1) := by
    have hreal : (10 : ℝ) * k < 7 * 2 ^ (c.bitDepth - 1) := by
      exact_mod_cast (by omega : 10 * k < 7 * 2 ^ (c.bitDepth - 1))
    linarith
  have hpow : (4 : ℝ) * 2 ^ (c.bitDepth - 1) = 2 ^ (c.bitDepth + 1) := by
    obtain ⟨b, hb⟩ := Nat.exists_eq_add_of_le' hbits
    rw [hb, Nat.add_sub_cancel]; ring
  calc rankBound c k ≤ 40 / 17 * (2 ^ (c.bitDepth - 1) + k) := by rw [rankBound]; gcongr
    _ < 40 / 17 * (17 / 10 * 2 ^ (c.bitDepth - 1)) := by gcongr
    _ = 2 ^ (c.bitDepth + 1) := by rw [← hpow]; ring

end

/-- Settles O36: the length of each rank's vector bounds its coordinates. -/
theorem cordicRanksFitInTwoMoreBits : Obligations.CordicRanksFitInTwoMoreBits := by
  intro d n σ c hrun hmem hc hbits hdelta hstages hstart t ht r hr
  have hbits' : 1 ≤ c.bitDepth := by omega
  have hbounded : RanksBounded c (σ t).regs.cordic :=
    TickRun.cordic_induction hrun hmem hc hstart (ranksBounded_reset c)
      (fun i r last _ h => h.ticked hbits' hdelta i last) t ht
  obtain ⟨k, hk⟩ := List.mem_iff_getElem?.mp hr
  obtain ⟨hkS, hnorm⟩ := hbounded k r hk
  have hlt := hnorm.trans_lt (rankBound_lt hbits' hstages hkS)
  have hx : |r.x| < 2 ^ (c.bitDepth + 1) := by
    exact_mod_cast (show |(r.x : ℝ)| < _ from (Complex.abs_re_le_norm (rankVector r)).trans_lt hlt)
  have hy : |r.y| < 2 ^ (c.bitDepth + 1) := by
    exact_mod_cast (show |(r.y : ℝ)| < _ from (Complex.abs_im_le_norm (rankVector r)).trans_lt hlt)
  rw [abs_lt] at hx hy
  exact ⟨hx.1.le, hx.2, hy.1.le, hy.2⟩

end Sys2Proof.Proofs
end

section
/-! `SEQ.CONFIG`: each of its four checks as a predicate on the operands, and what it answers by them (R160, R247). -/

namespace Sys2Proof.Proofs

open Sys2Proof.Machine Sys2Proof.Safety

/-! ### The checks of `SEQ.CONFIG` -/

/-- The window of a symbol is no positive number of whole words. -/
def SeqWindowBad (p : SeqParams) : Prop :=
  p.width < 1 ∨ p.samplesPerSymbol < p.width ∨ p.samplesPerSymbol % p.width ≠ 0

/-- `WPS`, the words per symbol. -/
def seqWps (p : SeqParams) : Nat := (p.samplesPerSymbol / p.width).toNat

/-- A packet symbol, or the symbol 0 of the reset registers, has its window outside of the table. -/
def SeqSymbolOutside (p : SeqParams) : Prop :=
  ∃ sym, (sym ∈ p.packet ∨ sym = 0) ∧ p.table.length < baseOf p.base sym * seqWps p + seqWps p

/-- A table word does not fit in `W` bits. -/
def SeqWordTooWide (p : SeqParams) : Prop := ∃ v ∈ p.table, 2 ^ p.width.toNat ≤ v

section
variable {p : SeqParams}

/-- The model divides the numbers of the window as naturals. -/
theorem toNat_div_eq_seqWps (hwindow : ¬ SeqWindowBad p) :
    p.samplesPerSymbol.toNat / p.width.toNat = seqWps p := by
  simp only [SeqWindowBad, not_or, not_lt] at hwindow
  obtain ⟨hwidth, hsamples, -⟩ := hwindow
  zify
  rw [seqWps, Int.toNat_of_nonneg (by omega), Int.toNat_of_nonneg (by omega),
    Int.toNat_of_nonneg (Int.ediv_nonneg (by omega) (by omega))]

theorem all_symbolInTable_iff :
    ((p.packet ++ [0]).all fun s => symbolInTable p.base (seqWps p) p.table.length s) = true ↔
      ¬ SeqSymbolOutside p := by
  simp [SeqSymbolOutside, symbolInTable]

theorem all_words_lt_iff : (p.table.all fun v => decide (v < 2 ^ p.width.toNat)) = true ↔ ¬ SeqWordTooWide p := by
  simp [SeqWordTooWide]

theorem buildSeq_of_windowBad (hwindow : SeqWindowBad p) : buildSeq p = .error .seqBadWindow := if_pos hwindow

/-- What is left to check of operands with a good window and a packet. -/
theorem buildSeq_of_packet (hwindow : ¬ SeqWindowBad p) (hpacket : p.packet ≠ []) :
    buildSeq p =
      if ¬ ((p.packet ++ [0]).all fun s => symbolInTable p.base (seqWps p) p.table.length s) then
        .error .seqSymbolRange
      else if ¬ (p.table.all fun v => decide (v < 2 ^ p.width.toNat)) then .error .seqWordWidth
      else .ok ⟨p, p.width.toNat, seqWps p, p.table, p.packet, p.base, p.gateLat⟩ := by
  have hlength : ¬ p.packet.length < 1 := by simpa [Nat.pos_iff_ne_zero] using hpacket
  rw [← toNat_div_eq_seqWps hwindow]
  exact (if_neg hwindow).trans (if_neg hlength)

theorem buildSeq_of_packet_nil (hwindow : ¬ SeqWindowBad p) (hpacket : p.packet = []) :
    buildSeq p = .error .seqEmptyPacket :=
  (if_neg hwindow).trans (if_pos (by simp [hpacket]))

theorem buildSeq_of_symbolOutside (hwindow : ¬ SeqWindowBad p) (hpacket : p.packet ≠ [])
    (houtside : SeqSymbolOutside p) : buildSeq p = .error .seqSymbolRange := by
  rw [buildSeq_of_packet hwindow hpacket, if_pos (mt all_symbolInTable_iff.mp (not_not.mpr houtside))]

theorem buildSeq_of_wordTooWide (hwindow : ¬ SeqWindowBad p) (hpacket : p.packet ≠ [])
    (hinside : ¬ SeqSymbolOutside p) (hwide : SeqWordTooWide p) : buildSeq p = .error .seqWordWidth := by
  rw [buildSeq_of_packet hwindow hpacket, if_neg (not_not.mpr (all_symbolInTable_iff.mpr hinside)),
    if_pos (mt all_words_lt_iff.mp (not_not.mpr hwide))]

theorem buildSeq_of_checked (hwindow : ¬ SeqWindowBad p) (hpacket : p.packet ≠ [])
    (hinside : ¬ SeqSymbolOutside p) (hfit : ¬ SeqWordTooWide p) :
    buildSeq p = .ok ⟨p, p.width.toNat, seqWps p, p.table, p.packet, p.base, p.gateLat⟩ := by
  rw [buildSeq_of_packet hwindow hpacket, if_neg (not_not.mpr (all_symbolInTable_iff.mpr hinside)),
    if_neg (not_not.mpr (all_words_lt_iff.mpr hfit))]

end

/-! ### Its outcome -/

section
variable {s : State}

theorem exec_seqConfig_of_ok {c : SeqConfig} (h : buildSeq s.params.seq = .ok c) :
    exec .seqConfig s = .next (s.installSeq c) :=
  configureWith_eq_next_iff.mpr (.inl ⟨c, h, rfl⟩)

theorem exec_seqConfig_of_error {cause : ConfigCause} (h : buildSeq s.params.seq = .error cause) :
    exec .seqConfig s = .next (s.raiseConfigurationError (.seq s.params.seq) cause) :=
  configureWith_eq_next_iff.mpr (.inr ⟨cause, h, rfl⟩)

end

/-- Settles O38: the first check that fails gives the cause of the exception. -/
theorem seqConfigOutcome : Obligations.SeqConfigOutcome := fun _ =>
  ⟨fun hwindow => exec_seqConfig_of_error (buildSeq_of_windowBad hwindow),
    fun hwindow hpacket => exec_seqConfig_of_error (buildSeq_of_packet_nil hwindow hpacket),
    fun hwindow hpacket houtside =>
      exec_seqConfig_of_error (buildSeq_of_symbolOutside hwindow hpacket houtside),
    fun hwindow hpacket hinside hwide =>
      exec_seqConfig_of_error (buildSeq_of_wordTooWide hwindow hpacket hinside hwide),
    fun hwindow hpacket hinside hfit =>
      exec_seqConfig_of_ok (buildSeq_of_checked hwindow hpacket hinside hfit)⟩

end Sys2Proof.Proofs
end

section
/-! The RXI tick by tick: the state its FSM goes to and the control values its deglitch registers take (R182, R198,
R200 to R211), and the pulses of `drpen`. -/

namespace Sys2Proof.Proofs

open Sys2Proof.Machine Sys2Proof.Safety

/-! ### One tick without the reset of the domain -/

section
variable {α : Type} {s : State} {rst : Level} {l : List Slot} {p : Slot} {n m : Regs}

/-- What the operation of a present place writes is what lands. -/
theorem TickWrites.lands_of_present (h : TickWrites s rst (l.filter (s.present rst)) n m) (hp : p ∈ l)
    (hpresent : s.present rst p = true) (get : Regs → α) {r : α}
    (hexec : ∀ k v, ∃ u, exec (slotOperation s rst p) ((running s k v).focusSlot p) = .next u ∧ get u.next = r) :
    get m = r := by
  obtain ⟨k, v, w, hlast⟩ := h.exec_last (List.mem_filter.mpr ⟨hp, hpresent⟩)
  obtain ⟨u, hu, hget⟩ := hexec k v
  obtain rfl : u = running s m w := Host.Outcome.next.inj (hu.symm.trans hlast)
  exact hget

/-- A place of a TXI or RXI takes part in every tick in which it stands. -/
theorem present_link {v : LinkVariant} {a : LinkPart} (hstands : s.stands (.link v a) = true) :
    s.present rst (.link v a) = true := by
  simp [State.present, hstands, State.readsMatch]

end

section
variable {s t : State} {d : Nat} {levels : List PortLevel} {rest : List Stim} {c : RxiConfig}

/-- The state that the FSM of an RXI goes to in a tick without reset: its transition, against which an expiring
watchdog has priority (R185, R247). -/
def rxiNextState (c : RxiConfig) (i : Inputs) (r : RxiRegs) : RxiState :=
  if rxiExpires c r then .powerDown else rxiTarget c i r r.state

/-- The FSM's transition where an RXI is configured. -/
theorem exec_rxiOperation_of_config {v : RxiState} (hc : s.inst.rxi = some c) :
    exec (rxiOperation v) s =
      rxiGoto (s.writeDrpvalue (rxiCapture s.inputs v s.next.rxi.drpvalue)) c
        (rxiTarget c s.inputs s.regs.rxi v) := by
  rw [exec_rxiOperation, hc, withConfig_some]

/-- `DEGL.TICK` of a configured RXI in focus. -/
theorem exec_deglTick_rxi (hc : s.inst.rxi = some c) (hfocus : s.focus = .rx) :
    exec .deglTick s = .next (s.writeRxiDegl (rxiControls c s.regs.rxi)) :=
  withLink_eq_next_iff.mpr (.inr ⟨hfocus, c, hc, rfl⟩)

/-- What a tick of domain `d` from `s` to `t` makes of the FSM's state and of the deglitch registers of an RXI: with
`rst` their reset values, without it those of the operations of its FSM and of `DEGL`. -/
def RxiTicked (c : RxiConfig) (d : Nat) (s t : State) : Prop :=
  (rstLevel t d = true ∧ t.regs.rxi.state = .powerDown ∧ t.regs.rxi.degl = rxiDeglReset) ∨
  (rstLevel t d = false ∧ t.regs.rxi.state = rxiNextState c t.inputs s.regs.rxi ∧
    t.regs.rxi.degl = rxiControls c s.regs.rxi)

theorem step_tick_rxi (hs : s.script = .tick d levels :: rest) (h : step s = .next t)
    (hmem : linkSlots .rx ⊆ members s d) (hc : s.inst.rxi = some c) : RxiTicked c d s t := by
  have hw := step_tick_writes hs h
  have hc' : (tickStart s t).inst.rxi = some c := (congrArg Instances.rxi (step_tick_inst hs h)).trans hc
  have hsome : (tickStart s t).inst.rxi.isSome = true := Option.isSome_of_eq_some hc'
  cases hrst : rstLevel t d with
  | true =>
    rw [hrst] at hw
    have hreset := hw.rxi_of_rst hmem hc'
    exact .inl ⟨hrst, congrArg RxiRegs.state hreset, congrArg RxiRegs.degl hreset⟩
  | false =>
    rw [hrst] at hw
    have hstate : t.regs.rxi.state = rxiNextState c t.inputs s.regs.rxi :=
      hw.lands_of_present (p := .link .rx .fsm) (hmem (by decide)) (present_link hsome) (·.rxi.state) fun k v =>
        ⟨_, exec_rxiOperation_of_config (s := (running (tickStart s t) k v).focusSlot (.link .rx .fsm)) hc', rfl⟩
    have hdegl : t.regs.rxi.degl = rxiControls c s.regs.rxi :=
      hw.lands_of_present (p := .link .rx .degl) (hmem (by decide)) (present_link hsome) (·.rxi.degl) fun k v =>
        ⟨_, exec_deglTick_rxi (s := (running (tickStart s t) k v).focusSlot (.link .rx .degl)) hc' rfl, rfl⟩
    exact .inr ⟨hrst, hstate, hdegl⟩

/-- Every tick of a run is such a tick of the RXI that stands at its start. -/
theorem TickRun.rxi_ticked {n : Nat} {σ : Nat → State} (hrun : TickRun d n σ)
    (hmem : linkSlots .rx ⊆ members (σ 0) d) (hc : (σ 0).inst.rxi = some c) {k : Nat} (hk : k < n) :
    RxiTicked c d (σ k) (σ (k + 1)) := by
  obtain ⟨⟨levels, rest, hs⟩, h⟩ := hrun k hk
  obtain ⟨hinst, hmembers⟩ := TickRun.inst_members hrun hk.le
  exact step_tick_rxi hs h (hmembers ▸ hmem) (hinst ▸ hc)

end

/-! ### The DRP ports (R66, R198) -/

section
variable {c : RxiConfig} {r r' : RxiRegs}

/-- `drpen` is 1 in the three states that issue a DRP transaction. -/
theorem rxiControls_drpen_iff :
    (rxiControls c r).drpen = true ↔
      r.state = .drpReadIssue ∨ r.state = .drpModIssue ∨ r.state = .drpRestoreIssue := by
  cases h : r.state <;> simp [rxiControls, h]

/-- The write data are driven in every state. -/
theorem rxiControls_drpdi : (rxiControls c r).drpdi = rxiDrpData c r := by
  cases h : r.state <;> simp [rxiControls, h]

theorem rxiDrpData_eq_or : rxiDrpData c r = r.drpvalue ∨ rxiDrpData c r = r.drpvalue &&& c.drpModMask := by
  cases h : r.state <;> simp [rxiDrpData, h]

/-- An RXI leaves each issuing state at once, for a state that issues nothing (R201, R203, R206). -/
theorem drpen_rxiNextState {i : Inputs} (h : (rxiControls c r).drpen = true)
    (hnext : r'.state = rxiNextState c i r) : (rxiControls c r').drpen = false := by
  rw [Bool.eq_false_iff, ne_eq, rxiControls_drpen_iff, hnext, rxiNextState]
  split
  · simp
  · rcases rxiControls_drpen_iff.mp h with hr | hr | hr <;> simp [hr, rxiTarget]

end

/-- Settles O54: `drpen` is put out for an issuing state, in a tick that leaves it. -/
theorem drpPulsesLastOneTick : Obligations.DrpPulsesLastOneTick := by
  intro d n σ c hrun hmem hc t ht hdrpen
  rcases TickRun.rxi_ticked hrun hmem hc (Nat.lt_of_succ_lt ht) with ⟨-, -, hreset⟩ | ⟨-, hstate, hdegl⟩
  · rw [hreset] at hdrpen
    cases hdrpen
  · rw [hdegl] at hdrpen ⊢
    refine ⟨?_, fun _ => rxiControls_drpdi ▸ rxiDrpData_eq_or⟩
    rcases TickRun.rxi_ticked hrun hmem hc ht with ⟨-, -, hreset⟩ | ⟨-, -, hdegl'⟩
    · rw [hreset]
      rfl
    · rw [hdegl']
      exact drpen_rxiNextState hdrpen hstate

end Sys2Proof.Proofs
end

section
/-! The encoding (R81 to R88): the selector word as its fields, what each part of the decoder answers, and that decoder
and encoder are inverse on the words that R87 does not reserve. -/

namespace Sys2Proof.Proofs

open Sys2Proof.Machine Sys2Proof.Safety

/-! ### Every word by its fields (R81, R82) -/

/-- A word whose bits 9:4 are 0 is determined by its other fields. -/
theorem selWord_fields {w : SelWord} (hzero : w.zeroField = 0) :
    selWord w.unitField w.rstField w.clrField w.stField = w := by
  apply BitVec.eq_of_getLsbD_eq
  intro k hk
  rw [getLsbD_selWord]
  split_ifs with hst hz hclr hrst
  · simp [SelWord.stField, hst]
  · have hbit : w.zeroField.getLsbD (k - 4) = false := by rw [hzero]; exact BitVec.getLsbD_zero
    rw [SelWord.zeroField, BitVec.getLsbD_extractLsb', decide_eq_true (by omega), Bool.true_and,
      Nat.add_sub_cancel' (by omega)] at hbit
    exact hbit.symm
  · rw [SelWord.clrField, hclr]
  · rw [SelWord.rstField, hrst]
  · rw [SelWord.unitField, BitVec.getLsbD_extractLsb', decide_eq_true (by omega), Bool.true_and,
      Nat.add_sub_cancel' (by omega)]

theorem code_of_ofCode?_eq_some {c : BitVec 4} {u : UnitCode} (h : UnitCode.ofCode? c = some u) : c = u.code := by
  unfold UnitCode.ofCode? at h
  split at h <;> cases h <;> exact (BitVec.toNat_eq_nat.mp ‹_›).2

/-- R82 gives a code to eleven units that tick and to `CFG`; R87 reserves the others. -/
theorem unitCode_cases (c : BitVec 4) :
    (∃ u : UnitCode, c = u.code) ∨ c = cfgCode ∨ (11 ≤ c.toNat ∧ c.toNat ≤ 14) := by
  cases h : UnitCode.ofCode? c with
  | some u => exact .inl ⟨u, code_of_ofCode?_eq_some h⟩
  | none =>
    have hreserved : ∀ c, UnitCode.ofCode? c = none → c = cfgCode ∨ (11 ≤ c.toNat ∧ c.toNat ≤ 14) := by decide
    exact .inr (hreserved c h)

/-- Every word has a nonzero bit in 9:4, or a reserved unit code, or is the word of fields of R81. -/
theorem selWord_cases (w : SelWord) :
    w.zeroField ≠ 0 ∨ (11 ≤ w.unitField.toNat ∧ w.unitField.toNat ≤ 14) ∨
      (∃ rst clr st, w = selWord cfgCode rst clr st) ∨
      ∃ (u : UnitCode) (rst clr : Level) (st : BitVec 4), w = selWord u.code rst clr st := by
  by_cases hzero : w.zeroField = 0
  · have hw := (selWord_fields hzero).symm
    rcases unitCode_cases w.unitField with ⟨u, hu⟩ | hcfg | hreserved
    · exact .inr (.inr (.inr ⟨u, _, _, _, hu ▸ hw⟩))
    · exact .inr (.inr (.inl ⟨_, _, _, hcfg ▸ hw⟩))
    · exact .inr (.inl hreserved)
  · exact .inl hzero

/-! ### The decoder on each of these words (R86, R87) -/

theorem decode_of_zeroField_ne {w : SelWord} (h : w.zeroField ≠ 0) : decode w = .error .nonzeroField := if_pos h

theorem exists_decode_error_of_unitField {w : SelWord} (h : 11 ≤ w.unitField.toNat ∧ w.unitField.toNat ≤ 14) :
    ∃ e, decode w = .error e := by
  have hunit : ∀ c : BitVec 4, 11 ≤ c.toNat ∧ c.toNat ≤ 14 → c ≠ cfgCode ∧ UnitCode.ofCode? c = none := by decide
  obtain ⟨hcfg, hnone⟩ := hunit _ h
  by_cases hzero : w.zeroField = 0
  · exact ⟨.reservedUnit, by simp [decode, hzero, hcfg, hnone]⟩
  · exact ⟨_, decode_of_zeroField_ne hzero⟩

theorem decode_selWord_cfg (rst clr : Level) (st : BitVec 4) :
    decode (selWord cfgCode rst clr st) = decodeCfg rst clr st := by
  simp [decode]

/-! ### What is decoded is encoded by the same word -/

section
variable {u : UnitCode} {rst clr : Level} {st : BitVec 4} {i : Instr}

theorem encode_of_decodeStateless {j : Instr} (hj : encode j = tickWord u 0 ∧ j.wellFormed = true)
    (h : decodeStateless j st = .ok i) : encode i = tickWord u st ∧ i.wellFormed = true := by
  unfold decodeStateless at h
  split at h <;> cases h
  next hst => exact hst ▸ hj

theorem encode_of_decodeByState (h : decodeByState u st = .ok i) :
    encode i = tickWord u st ∧ i.wellFormed = true := by
  cases u with
  | acq | seq | txi | rxi =>
    dsimp only [decodeByState, decodeAcq, decodeSeq, decodeTxi, decodeRxi] at h
    split at h <;> cases h <;> exact (BitVec.toNat_eq_nat.mp ‹_›).2 ▸ ⟨rfl, rfl⟩
  | _ => exact encode_of_decodeStateless ⟨rfl, rfl⟩ h

theorem encode_of_decodeCleared (h : decodeCleared u st = .ok i) :
    encode i = selWord u.code false true st ∧ i.wellFormed = true := by
  cases u with
  | acq | seq =>
    dsimp only [decodeCleared] at h
    split at h <;> cases h
    exact ⟨rfl, ‹_›⟩
  | _ => cases h

theorem wellFormed_rst (u : UnitCode) (clr : Level) (st : BitVec 4) :
    (Instr.rst u ⟨clr, st⟩).wellFormed = (!(clr && !u.hasLevelReset) && u.stateDeclared st) := by
  cases clr <;> simp [Instr.wellFormed]

theorem decodeReset_eq_ok_iff :
    decodeReset u clr st = .ok i ↔ (Instr.rst u ⟨clr, st⟩).wellFormed = true ∧ .rst u ⟨clr, st⟩ = i := by
  rw [wellFormed_rst, decodeReset]
  split
  next hclr => simp [hclr]
  next hclr =>
    split
    next hst => simp [hclr, hst]
    next hst => simp [hst]

theorem encode_of_decodeTick (h : decodeTick u rst clr st = .ok i) :
    encode i = selWord u.code rst clr st ∧ i.wellFormed = true := by
  cases rst with
  | true =>
    obtain ⟨hwf, rfl⟩ := decodeReset_eq_ok_iff.mp h
    exact ⟨rfl, hwf⟩
  | false =>
    cases clr with
    | true => exact encode_of_decodeCleared h
    | false => exact encode_of_decodeByState h

theorem encode_of_decodeConfig (h : decodeConfig st = .ok i) :
    encode i = selWord cfgCode false false st ∧ i.wellFormed = true := by
  unfold decodeConfig at h
  split at h <;> cases h <;> exact (BitVec.toNat_eq_nat.mp ‹_›).2 ▸ ⟨rfl, rfl⟩

theorem encode_of_decodeCfg (h : decodeCfg rst clr st = .ok i) :
    encode i = selWord cfgCode rst clr st ∧ i.wellFormed = true := by
  cases rst <;> cases clr
  case false.false => exact encode_of_decodeConfig h
  all_goals cases h

end

/-- Settles O2: each shape of word goes through one part of the decoder, which drops no field. -/
theorem decodedWordIsItsEncoding : Obligations.DecodedWordIsItsEncoding := by
  intro w i h
  rcases selWord_cases w with hzero | hunit | ⟨rst, clr, st, rfl⟩ | ⟨u, rst, clr, st, rfl⟩
  · rw [decode_of_zeroField_ne hzero] at h
    cases h
  · obtain ⟨e, he⟩ := exists_decode_error_of_unitField hunit
    rw [he] at h
    cases h
  · exact encode_of_decodeCfg (decode_selWord_cfg rst clr st ▸ h)
  · exact encode_of_decodeTick (decode_selWord u rst clr st ▸ h)

/-- Settles O1: the operations with fields go through `decode_selWord`; every other one has one word. -/
theorem decodeEncodeRoundTrip : Obligations.DecodeEncodeRoundTrip := by
  intro i hwf
  cases i with
  | rst u x => exact (decode_selWord _ _ _ _).trans (decodeReset_eq_ok_iff.mpr ⟨hwf, rfl⟩)
  | acqClr st => exact (decode_selWord .acq _ _ _).trans (if_pos hwf)
  | seqClr st => exact (decode_selWord .seq _ _ _).trans (if_pos hwf)
  | _ => rfl

/-! ### Which words are refused (R87) -/

theorem exists_error_iff {x : Except DecodeReject Instr} : (∃ e, x = .error e) ↔ x.isOk = false := by
  cases x <;> simp [Except.isOk, Except.toBool]

/-- The units whose operation does not depend on a state code (R83). -/
def unitStateless : UnitCode → Bool
  | .acq | .seq | .txi | .rxi => false
  | .nco | .matcher | .cordic | .sync2 | .degl | .wtmr | .wdog => true

theorem isOk_decodeStateless (i : Instr) (st : BitVec 4) : (decodeStateless i st).isOk = decide (st = 0) := by
  unfold decodeStateless
  split
  next hst => exact (decide_eq_true hst).symm
  next hst => exact (decide_eq_false hst).symm

theorem isOk_decodeByState (u : UnitCode) (st : BitVec 4) :
    (decodeByState u st).isOk = (u.stateDeclared st && (!unitStateless u || decide (st = 0))) := by
  cases u with
  | acq | seq | txi | rxi => revert st; decide
  | _ => exact isOk_decodeStateless _ st

theorem isOk_decodeCleared (u : UnitCode) (st : BitVec 4) :
    (decodeCleared u st).isOk = (u.hasLevelReset && u.stateDeclared st) := by
  cases u with
  | acq | seq => revert st; decide
  | _ => rfl

theorem isOk_decodeReset (u : UnitCode) (clr : Level) (st : BitVec 4) :
    (decodeReset u clr st).isOk = ((u.hasLevelReset || !clr) && u.stateDeclared st) := by
  unfold decodeReset
  cases clr <;> cases u.hasLevelReset <;> cases u.stateDeclared st <;> rfl

theorem isOk_decodeTick (u : UnitCode) (rst clr : Level) (st : BitVec 4) :
    (decodeTick u rst clr st).isOk =
      ((u.hasLevelReset || !clr) && u.stateDeclared st && (rst || !unitStateless u || decide (st = 0))) := by
  have hstates : u.hasLevelReset = true → unitStateless u = false := by cases u <;> decide
  cases rst with
  | true => simpa [decodeTick] using isOk_decodeReset u clr st
  | false =>
    cases clr with
    | true =>
      refine (isOk_decodeCleared u st).trans ?_
      cases hlevel : u.hasLevelReset with
      | true => simp [hstates hlevel]
      | false => rfl
    | false => simpa [decodeTick] using isOk_decodeByState u st

theorem hasLevelReset_eq_false_iff (u : UnitCode) :
    u.hasLevelReset = false ↔ u.code.toNat ≠ 2 ∧ u.code.toNat ≠ 4 := by
  cases u <;> decide

theorem stateDeclared_eq_false_iff (u : UnitCode) (st : BitVec 4) :
    u.stateDeclared st = false ↔ (u.code.toNat = 2 ∧ 3 ≤ st.toNat) ∨ (u.code.toNat = 4 ∧ 2 ≤ st.toNat) ∨
      (u.code.toNat = 9 ∧ 5 ≤ st.toNat) ∨ (u.code.toNat = 10 ∧ 12 ≤ st.toNat) := by
  revert st
  cases u <;> decide

theorem unitStateless_iff (u : UnitCode) :
    unitStateless u = true ↔ u.code.toNat = 0 ∨ u.code.toNat = 1 ∨ u.code.toNat = 3 ∨
      (5 ≤ u.code.toNat ∧ u.code.toNat ≤ 8) := by
  cases u <;> decide

/-- What R87 reserves among the words of a unit that ticks. -/
theorem decodeTick_refuses_iff (u : UnitCode) (rst clr : Level) (st : BitVec 4) :
    (∃ e, decodeTick u rst clr st = .error e) ↔
      (clr = true ∧ u.hasLevelReset = false) ∨ u.stateDeclared st = false ∨
        (rst = false ∧ unitStateless u = true ∧ st.toNat ≠ 0) := by
  have hzero : st.toNat ≠ 0 ↔ st ≠ 0 := not_congr (BitVec.toNat_inj (y := 0))
  rw [exists_error_iff, isOk_decodeTick, hzero]
  simp only [Bool.and_eq_false_iff, Bool.or_eq_false_iff, Bool.not_eq_false', decide_eq_false_iff_not, or_assoc,
    and_assoc, ne_eq, and_comm (a := clr = true)]

theorem isOk_decodeCfg_eq_false_iff (rst clr : Level) (st : BitVec 4) :
    (decodeCfg rst clr st).isOk = false ↔
      clr = true ∨ rst = true ∨ (5 ≤ st.toNat ∧ st.toNat ≤ 8) ∨ 11 ≤ st.toNat := by
  revert rst clr st
  decide

/-- Settles O3: of the words of fields, those of a unit that ticks by the three tables of unit codes, those of `CFG`
by their own. -/
theorem reservedWordsRefused : Obligations.ReservedWordsRefused := by
  intro w unit st
  rcases selWord_cases w with hzero | hunit | ⟨rst, clr, st', rfl⟩ | ⟨u, rst, clr, st', rfl⟩
  · exact iff_of_true ⟨_, decode_of_zeroField_ne hzero⟩ (.inr (.inl hzero))
  · exact iff_of_true (exists_decode_error_of_unitField hunit) (.inl hunit)
  · rw [decode_selWord_cfg, exists_error_iff, isOk_decodeCfg_eq_false_iff]
    simp [unit, st, cfgCode]
  · have hcode : u.code.toNat < 11 := by cases u <;> decide
    rw [decode_selWord, decodeTick_refuses_iff, hasLevelReset_eq_false_iff, stateDeclared_eq_false_iff,
      unitStateless_iff]
    simp [unit, st, hcode.not_ge, (show u.code.toNat ≠ 15 by omega), or_assoc]

/-- Settles O5: R86 read off each place, in `decodeTick_slot`. -/
theorem formedWordsSpellTheirOperation : Obligations.FormedWordsSpellTheirOperation := decode_selector

/-- Settles O4, by running the decoder on the seventeen words. -/
theorem tableWordsDecode : Obligations.TableWordsDecode := by
  unfold Obligations.TableWordsDecode
  decide

end Sys2Proof.Proofs
end

section
/-! The constants of `CORDIC.CONFIG`: what the search of R140 finds is the rounding of the real number. -/

namespace Sys2Proof.Proofs

open Sys2Proof.Machine

/-- A search in which every answer is the rounding of `x` finds it. -/
theorem decidedValue_eq_round {at? : Nat → Option ℤ} {x : ℝ} (k : Nat) (h : ∃ g, (at? (g + 1)).isSome = true)
    (hround : ∀ {g m}, 1 ≤ g → at? g = some m → m = round x) : decidedValue (at? (guardBits k)) at? h = round x := by
  obtain ⟨g, hg, hdecided⟩ := decidedValue_decided at? (g := guardBits k) (by unfold guardBits; omega) h
  exact hround hg hdecided

theorem cordicDelta_eq_round (k i : Nat) : cordicDelta k i = round ((2 : ℝ) ^ k * Real.arctan ((2 : ℝ)⁻¹ ^ i)) :=
  decidedValue_eq_round k _ Laws.deltaAt_eq_round

theorem cordicPi_eq_round (k : Nat) : cordicPi k = round ((2 : ℝ) ^ k * Real.pi) :=
  decidedValue_eq_round k _ Laws.piAt_eq_round

theorem cordicTwoPi_eq_round (k : Nat) : cordicTwoPi k = round ((2 : ℝ) ^ k * (2 * Real.pi)) :=
  decidedValue_eq_round k _ Laws.twoPiAt_eq_round

theorem buildCordic_of_exec {s t : State} {c : CordicConfig} (h : exec .cordicConfig s = .next t)
    (hc : t.inst.cordic = some c) : buildCordic s.params.cordic = .ok c := by
  rcases configureWith_eq_next_iff.mp h with ⟨c', hc', rfl⟩ | ⟨cause, -, rfl⟩
  · cases hc; exact hc'
  · cases hc

/-- Settles O31: an instance comes only of accepted operands, and its constants are the decided values. -/
theorem cordicConstantsAreRoundings : Obligations.CordicConstantsAreRoundings := by
  intro s t c h hc
  obtain ⟨-, -, rfl⟩ := buildCordic_eq_ok_iff.mp (buildCordic_of_exec h hc)
  refine ⟨by simp, fun i hi => ?_, cordicPi_eq_round _, cordicTwoPi_eq_round _⟩
  rw [List.getElem?_map, List.getElem?_range hi, Option.map_some, cordicDelta_eq_round]

end Sys2Proof.Proofs
end

section
/-! The NCO in playback (R104, R105): what a tick makes of its registers, their closed form in a run without reset, and
the bits of a built table as the sample stream. -/

namespace Sys2Proof.Proofs

open Sys2Proof.Machine Sys2Proof.Safety

/-! ### One tick -/

/-- `NCO.TICK` where `index` names a word of the table (R104). -/
theorem exec_ncoTick {s : State} {c : NcoConfig} {w : Nat} (hc : s.inst.nco = some c)
    (hw : c.table[s.regs.nco.index]? = some w) :
    exec .ncoTick s = .next (s.writeNco ⟨ncoNextIndex c s.regs.nco.index, w⟩) :=
  withConfig_eq_next_iff.mpr ⟨c, hc, withWord_eq_next_iff.mpr ⟨w, hw, rfl⟩⟩

/-- Settles O17: the two reads succeed, and the NCO's write is the only one. -/
theorem ncoTickResult : Obligations.NcoTickResult := fun _ _ _ hc hw => exec_ncoTick hc hw

/-- The counter that goes on with wraparound counts modulo the number of words. -/
theorem ncoNextIndex_mod {c : NcoConfig} (hwords : 1 ≤ c.table.length) (t : Nat) :
    ncoNextIndex c (t % c.table.length) = (t + 1) % c.table.length := by
  have hlt : t % c.table.length < c.table.length := Nat.mod_lt _ hwords
  rw [ncoNextIndex, ← Nat.mod_add_mod t]
  split
  case isTrue hlast => rw [hlast, Nat.sub_add_cancel hwords, Nat.mod_self]
  case isFalse hinner =>
    have hnext : t % c.table.length + 1 < c.table.length := by omega
    rw [Nat.mod_eq_of_lt hnext]

section
variable {s t : State} {d n : Nat} {levels : List PortLevel} {rest : List Stim} {σ : Nat → State} {c : NcoConfig}

/-- What a tick without reset makes of the registers of a configured NCO. -/
theorem step_tick_nco (hs : s.script = .tick d levels :: rest) (h : step s = .next t)
    (hmem : .nco ∈ members s d) (hc : s.inst.nco = some c) (hrst : rstLevel t d = false) {w : Nat}
    (hw : c.table[s.regs.nco.index]? = some w) : t.regs.nco = ⟨ncoNextIndex c s.regs.nco.index, w⟩ := by
  have hwrites := step_tick_writes hs h
  have hc' : (tickStart s t).inst.nco = some c := (congrArg Instances.nco (step_tick_inst hs h)).trans hc
  have hpresent : (tickStart s t).present false .nco = true := by
    simp [State.present, State.stands, State.readsMatch, hc']
  rw [hrst] at hwrites
  exact hwrites.lands_of_present hmem hpresent (·.nco) fun k v =>
    ⟨_, exec_ncoTick (s := running (tickStart s t) k v) hc' hw, rfl⟩

/-! ### A run without reset (R105) -/

/-- The same along a run, in whose ticks the NCO stands and takes part. -/
theorem TickRun.nco_ticked (hrun : TickRun d n σ) (hlow : RstLow d n σ) (hmem : .nco ∈ members (σ 0) d)
    (hc : (σ 0).inst.nco = some c) {k i w : Nat} (hk : k < n) (hi : (σ k).regs.nco.index = i)
    (hw : c.table[i]? = some w) : (σ (k + 1)).regs.nco = ⟨ncoNextIndex c i, w⟩ := by
  subst hi
  obtain ⟨⟨levels, rest, hs⟩, h⟩ := hrun k hk
  obtain ⟨hinst, hmembers⟩ := TickRun.inst_members hrun hk.le
  exact step_tick_nco hs h (hmembers ▸ hmem) (hinst ▸ hc) (hlow k hk) hw

/-- `index(t) = t mod words`. -/
theorem TickRun.nco_index (hrun : TickRun d n σ) (hlow : RstLow d n σ) (hmem : .nco ∈ members (σ 0) d)
    (hc : (σ 0).inst.nco = some c) (hwords : 1 ≤ c.table.length) (hstart : (σ 0).regs.nco = ⟨0, 0⟩) :
    ∀ t, t ≤ n → (σ t).regs.nco.index = t % c.table.length := by
  intro t
  induction t with
  | zero => exact fun _ => by rw [hstart, Nat.zero_mod]
  | succ t ih =>
    intro ht
    have hword := List.getElem?_eq_getElem (Nat.mod_lt t hwords)
    rw [TickRun.nco_ticked hrun hlow hmem hc ht (ih (Nat.le_of_succ_le ht)) hword, ncoNextIndex_mod hwords]

/-- `out(t+1) = table[t mod words]`. -/
theorem TickRun.nco_out (hrun : TickRun d n σ) (hlow : RstLow d n σ) (hmem : .nco ∈ members (σ 0) d)
    (hc : (σ 0).inst.nco = some c) (hwords : 1 ≤ c.table.length) (hstart : (σ 0).regs.nco = ⟨0, 0⟩)
    {t : Nat} (ht : t < n) : c.table[t % c.table.length]? = some (σ (t + 1)).regs.nco.out := by
  have hword := List.getElem?_eq_getElem (Nat.mod_lt t hwords)
  have hindex := TickRun.nco_index hrun hlow hmem hc hwords hstart t ht.le
  rw [TickRun.nco_ticked hrun hlow hmem hc ht hindex hword]
  exact hword

end

/-! ### The words of a built table as a stream of samples (R102) -/

/-- Each word of a built table holds the samples of its place in the period, in the order of R64. -/
theorem testBit_of_buildNco {p : NcoParams} {c : NcoConfig} (h : buildNco p = .ok c) {k w j : Nat}
    (hw : c.table[k]? = some w) (hj : j < c.width) :
    w.testBit (packedBit p.packOrder c.width j) = ncoSampleOf p c.period c.cycles (k * c.width + j) := by
  obtain ⟨-, -, -, -, htable, -⟩ := buildNco_ok h
  rw [htable, ncoTable, List.getElem?_map, Option.map_eq_some_iff] at hw
  obtain ⟨k', hk, rfl⟩ := hw
  obtain ⟨-, rfl⟩ := List.getElem?_eq_some_iff.mp hk
  have hbit := testBit_packWord p.packOrder
    (l := (List.range c.width).map fun j => ncoSampleOf p c.period c.cycles (k * c.width + j)) (j := j)
    (by simpa using hj)
  simpa only [ncoWord, List.length_map, List.length_range, List.getElem_map, List.getElem_range] using hbit

/-- Sample `m * W + j` of the stream stands at bit `j` of word `m mod words`. -/
theorem stream_position_mod {words width j : Nat} (m : Nat) (hj : j < width) :
    (m * width + j) % (words * width) = m % words * width + j := by
  rw [mul_comm words, Nat.mod_mul, mul_comm m, Nat.mul_add_mod, Nat.mod_eq_of_lt hj,
    Nat.mul_add_div (Nat.zero_lt_of_lt hj), Nat.div_eq_of_lt hj, add_zero, add_comm, mul_comm width]

/-- Settles O23: the registers by induction on the ticks, the bits by the place of a word in the period. -/
theorem ncoPlaybackClosedForm : Obligations.NcoPlaybackClosedForm := by
  intro d n σ c hrun hlow hmem hc hwords hstart t ht htn
  obtain ⟨t, rfl⟩ := Nat.exists_eq_add_of_le' ht
  have hout : ∀ t, t < n → c.table[t % c.table.length]? = some (σ (t + 1)).regs.nco.out := fun t =>
    TickRun.nco_out hrun hlow hmem hc hwords hstart
  rw [Nat.add_sub_cancel]
  refine ⟨TickRun.nco_index hrun hlow hmem hc hwords hstart _ htn, hout t htn, fun hperiod => ?_,
    fun p hbuild horder j hj => ?_⟩
  · have hlater := hout (t + c.table.length) (by omega)
    rw [Nat.add_mod_right, hout t htn, Option.some.injEq] at hlater
    rw [Nat.add_right_comm]
    exact hlater.symm
  · have hbit := testBit_of_buildNco hbuild (hout t htn) hj
    obtain ⟨-, -, hperiod, -⟩ := buildNco_ok hbuild
    rwa [horder, ← stream_position_mod t hj, ← hperiod] at hbit

end Sys2Proof.Proofs
end

section
/-! `NCO.BUILD` (R100): the search finds the least multiple of `W` within the tolerance, and what the operation answers
by its operands. -/

namespace Sys2Proof.Proofs

open Sys2Proof.Machine Sys2Proof.Safety

/-! ### The tolerance, multiplied out to integers -/

/-- The distance from the frequency, over the common denominator. -/
theorem ncoRealized_sub_frequency {p : NcoParams} {n : Nat} (hn : 0 < n) :
    ncoRealized p n - p.frequency =
      ((ncoCycles p n * p.sampleRate.num * p.frequency.den - p.frequency.num * p.sampleRate.den * n : ℤ) : ℚ) /
        (p.sampleRate.den * n * p.frequency.den : ℚ) := by
  have hn' : (n : ℚ) ≠ 0 := by exact_mod_cast hn.ne'
  have hf : (p.frequency.den : ℚ) ≠ 0 := by exact_mod_cast p.frequency.den_nz
  have hs : (p.sampleRate.den : ℚ) ≠ 0 := by exact_mod_cast p.sampleRate.den_nz
  rw [ncoRealized]
  conv_lhs => rw [← Rat.num_div_den p.frequency, ← Rat.num_div_den p.sampleRate]
  push_cast
  field_simp

theorem ncoAccepts_iff {p : NcoParams} {n : Nat} (hn : 0 < n) : ncoAccepts p n = true ↔ ncoMeets p n := by
  have hden : (0 : ℚ) < p.sampleRate.den * n * p.frequency.den := by
    have hf : (0 : ℚ) < p.frequency.den := by exact_mod_cast p.frequency.den_pos
    have hs : (0 : ℚ) < p.sampleRate.den := by exact_mod_cast p.sampleRate.den_pos
    positivity
  have herror : (0 : ℚ) < p.maxError.den := by exact_mod_cast p.maxError.den_pos
  rw [ncoMeets, ncoRealized_sub_frequency hn, abs_div, abs_of_pos hden]
  conv_rhs => rw [← Rat.num_div_den p.maxError]
  rw [div_lt_div_iff₀ hden herror, ncoAccepts, decide_eq_true_iff, Int.natCast_natAbs, ← @Int.cast_lt ℚ]
  push_cast
  ring_nf

/-! ### The period search -/

/-- The search answers the first number of its progression that is accepted, if it comes to one within the limit and
the fuel. -/
theorem ncoSearch_eq_some_iff {p : NcoParams} {step limit fuel start n : Nat} :
    ncoSearch p step limit fuel start = some n ↔
      ∃ i, i < fuel ∧ n = start + i * step ∧ n ≤ limit ∧ ncoAccepts p n = true ∧
        ∀ j, j < i → ncoAccepts p (start + j * step) = false := by
  induction fuel generalizing start with
  | zero => simp [ncoSearch]
  | succ fuel ih =>
    rw [ncoSearch]
    split
    case isTrue hlimit =>
      refine iff_of_false nofun ?_
      rintro ⟨i, -, rfl, hle, -⟩
      omega
    case isFalse hlimit =>
      split
      case isTrue haccept =>
        constructor
        · rintro ⟨⟩
          exact ⟨0, Nat.succ_pos _, by simp, not_lt.mp hlimit, haccept, nofun⟩
        · rintro ⟨i, -, rfl, -, -, hleast⟩
          rcases Nat.eq_zero_or_pos i with rfl | hi
          · simp
          · have hstart := hleast 0 hi
            simp [haccept] at hstart
      case isFalse hreject =>
        rw [ih]
        constructor
        · rintro ⟨i, hi, rfl, hle, haccept, hleast⟩
          refine ⟨i + 1, Nat.succ_lt_succ hi, by ring, hle, haccept, fun j hj => ?_⟩
          cases j with
          | zero => simpa using hreject
          | succ j =>
            have hj' := hleast j (Nat.lt_of_succ_lt_succ hj)
            rwa [show start + step + j * step = start + (j + 1) * step by ring] at hj'
        · rintro ⟨i, hi, rfl, hle, haccept, hleast⟩
          cases i with
          | zero => exact absurd (by simpa using haccept) hreject
          | succ i =>
            refine ⟨i, Nat.lt_of_succ_lt_succ hi, by ring, hle, haccept, fun j hj => ?_⟩
            rw [show start + step + j * step = start + (j + 1) * step by ring]
            exact hleast (j + 1) (Nat.succ_lt_succ hj)

/-- `k` words are the shortest period of whole words within the tolerance, and it is within `NCO_MAX_SAMPLES`. -/
structure NcoLeastPeriod (p : NcoParams) (k : Nat) : Prop where
  pos : 1 ≤ k
  bound : ((k * p.width.toNat : Nat) : ℤ) ≤ p.maxSamples
  meets : ncoMeets p (k * p.width.toNat)
  least : ∀ j, 1 ≤ j → j < k → ¬ ncoMeets p (j * p.width.toNat)

section
variable {p : NcoParams}

/-- The search of `NCO.BUILD` from `W` on, with fuel for every multiple of `W` up to the limit. -/
theorem ncoSearch_eq_some_iff_least (hwidth : 1 ≤ p.width) {n : Nat} :
    ncoSearch p p.width.toNat p.maxSamples.toNat (p.maxSamples.toNat / p.width.toNat + 1) p.width.toNat = some n ↔
      ∃ k, n = k * p.width.toNat ∧ NcoLeastPeriod p k := by
  have hw : 1 ≤ p.width.toNat := by omega
  have haccepts : ∀ j, ncoAccepts p ((j + 1) * p.width.toNat) = true ↔ ncoMeets p ((j + 1) * p.width.toNat) :=
    fun j => ncoAccepts_iff (Nat.mul_pos j.succ_pos hw)
  have hmultiple : ∀ j, p.width.toNat + j * p.width.toNat = (j + 1) * p.width.toNat := fun j => by ring
  simp only [ncoSearch_eq_some_iff, hmultiple, Bool.eq_false_iff, ne_eq, haccepts]
  constructor
  · rintro ⟨i, -, rfl, hle, haccept, hleast⟩
    have hpos : 1 ≤ (i + 1) * p.width.toNat := Nat.mul_pos i.succ_pos hw
    refine ⟨i + 1, rfl, Nat.succ_pos i, by omega, (haccepts i).mp haccept, fun j hj hji => ?_⟩
    obtain ⟨j, rfl⟩ := Nat.exists_eq_add_of_le' hj
    exact hleast j (Nat.lt_of_succ_lt_succ hji)
  · rintro ⟨k, rfl, hk⟩
    obtain ⟨i, rfl⟩ := Nat.exists_eq_add_of_le' hk.pos
    have hle : (i + 1) * p.width.toNat ≤ p.maxSamples.toNat := by
      have := hk.bound
      omega
    have hfuel : i + 1 ≤ p.maxSamples.toNat / p.width.toNat := (Nat.le_div_iff_mul_le hw).mpr hle
    exact ⟨i, by omega, rfl, hle, (haccepts i).mpr hk.meets, fun j hj =>
      hk.least (j + 1) j.succ_pos (Nat.succ_lt_succ hj)⟩

/-! ### What `NCO.BUILD` makes of its operands -/

theorem ncoBadOperands_iff_num :
    ncoBadOperands p ↔ p.width < 1 ∨ p.sampleRate.num ≤ 0 ∨ p.maxError.num ≤ 0 ∨ p.frequency.num < 0 := by
  rw [ncoBadOperands, Rat.num_nonpos, Rat.num_nonpos, Rat.num_neg]

theorem one_le_width_of_good (hgood : ¬ ncoBadOperands p) : 1 ≤ p.width := not_lt.mp fun h => hgood (.inl h)

theorem ncoPhaseAdmitted_iff {N : Nat} (hN : 0 < N) :
    ncoPhaseAdmitted p N = true ↔ ∃ φ, PresentsPhase N (ncoCycles p N) φ p.phase := by
  refine ⟨exists_presentsPhase_of_admitted hN, fun hφ => ?_⟩
  cases hp : p.phase with
  | turns q => simp only [ncoPhaseAdmitted, hp]
  | samples l =>
    simp only [ncoPhaseAdmitted, hp]
    exact (ncoAdmits_iff hN).mpr (hp ▸ hφ)

theorem buildNco_of_bad (hbad : ncoBadOperands p) : buildNco p = .error .ncoBadParameter :=
  if_pos (ncoBadOperands_iff_num.mp hbad)

/-- The least period of `k` words, with its cycles and its table of `k` words (R100, R102). -/
def ncoConfigOf (p : NcoParams) (k : Nat) : NcoConfig :=
  let w := p.width.toNat
  let n := k * w
  ⟨p, w, n, ncoCycles p n, (List.range k).map (ncoWord p w n (ncoCycles p n))⟩

theorem buildNco_of_noPeriod (hgood : ¬ ncoBadOperands p) (hnone : ∀ k, ¬ NcoLeastPeriod p k) :
    buildNco p = .error .ncoNoPeriod := by
  have hsearch : ncoSearch p p.width.toNat p.maxSamples.toNat (p.maxSamples.toNat / p.width.toNat + 1)
      p.width.toNat = none := by
    refine Option.eq_none_iff_forall_ne_some.mpr fun n hn => ?_
    obtain ⟨k, -, hk⟩ := (ncoSearch_eq_some_iff_least (one_le_width_of_good hgood)).mp hn
    exact hnone k hk
  simp only [buildNco, if_neg (mt ncoBadOperands_iff_num.mpr hgood), hsearch]

theorem buildNco_of_least (hgood : ¬ ncoBadOperands p) {k : Nat} (hk : NcoLeastPeriod p k) :
    buildNco p =
      if ncoPhaseAdmitted p (k * p.width.toNat) then .ok (ncoConfigOf p k) else .error .ncoBadParameter := by
  have hwidth := one_le_width_of_good hgood
  have hw : 0 < p.width.toNat := by omega
  simp only [buildNco, if_neg (mt ncoBadOperands_iff_num.mpr hgood),
    (ncoSearch_eq_some_iff_least hwidth).mpr ⟨k, rfl, hk⟩, ncoTable, Nat.mul_div_cancel k hw, ncoConfigOf]

/-- The period of a built NCO is the least one that its operands admit. -/
theorem leastPeriod_of_buildNco {c : NcoConfig} (h : buildNco p = .ok c) :
    (c.width : ℤ) = p.width ∧ c.width = p.width.toNat ∧ NcoLeastPeriod p c.table.length := by
  obtain ⟨hwidth, -, -, -, n, hn, -, hc⟩ := buildNco_eq_ok_iff.mp h
  obtain ⟨k, rfl, hk⟩ := (ncoSearch_eq_some_iff_least hwidth).mp hn
  have hw : 0 < p.width.toNat := by omega
  have hlength : c.table.length = k := by rw [hc, length_ncoTable, Nat.mul_div_cancel k hw]
  exact ⟨by rw [hc]; exact Int.toNat_of_nonneg (by omega), by rw [hc], hlength ▸ hk⟩

end

/-! ### The statements -/

section
variable {s : State}

theorem exec_ncoBuild_of_ok {c : NcoConfig} (h : buildNco s.params.nco = .ok c) :
    exec .ncoBuild s = .next (s.installNco c) :=
  configureWith_eq_next_iff.mpr (.inl ⟨c, h, rfl⟩)

theorem exec_ncoBuild_of_error {cause : ConfigCause} (h : buildNco s.params.nco = .error cause) :
    exec .ncoBuild s = .next (s.raiseConfigurationError (.nco s.params.nco) cause) :=
  configureWith_eq_next_iff.mpr (.inr ⟨cause, h, rfl⟩)

end

/-- Settles O18: the check of the operands, then the search, then the check of the presented phase. -/
theorem ncoBuildOutcome : Obligations.NcoBuildOutcome := by
  intro s
  refine ⟨fun hbad => exec_ncoBuild_of_error (buildNco_of_bad hbad),
    fun hgood hnone => exec_ncoBuild_of_error
      (buildNco_of_noPeriod hgood fun k hk => hnone k hk.pos hk.bound hk.meets),
    fun hgood k hpos hbound hmeets hleast => ?_⟩
  have hwidth := one_le_width_of_good hgood
  have hN : 0 < k * s.params.nco.width.toNat := Nat.mul_pos hpos (by omega)
  have hbuild := buildNco_of_least hgood ⟨hpos, hbound, hmeets, hleast⟩
  exact ⟨
    fun hφ => exec_ncoBuild_of_ok (hbuild.trans (if_pos ((ncoPhaseAdmitted_iff hN).mpr hφ))),
    fun hφ => exec_ncoBuild_of_error (hbuild.trans (if_neg (mt (ncoPhaseAdmitted_iff hN).mp hφ)))⟩

/-- Settles O20: what is built is the least period that meets the tolerance. -/
theorem ncoRealizedFrequencyWithinTolerance : Obligations.NcoRealizedFrequencyWithinTolerance := by
  intro s t c h hc
  have hbuild := buildNco_of_exec h hc
  obtain ⟨hw, hwords, hperiod, hcycles, -, -⟩ := buildNco_ok hbuild
  obtain ⟨hwidth, hwidth', hleast⟩ := leastPeriod_of_buildNco hbuild
  have hmeets : ncoMeets s.params.nco c.period := by
    rw [hperiod, hwidth']
    exact hleast.meets
  rw [hcycles]
  refine ⟨hmeets, hwidth, hwords, hperiod, fun k hk hlt => ?_⟩
  rw [hperiod] at hlt
  rw [hwidth']
  exact hleast.least k hk (Nat.lt_of_mul_lt_mul_right hlt)

end Sys2Proof.Proofs
end

section
/-! The output ports of the configured units (R107, R123, R127, R146, R162, R167, R186, R196). -/

namespace Sys2Proof.Proofs

open Sys2Proof.Machine Sys2Proof.Safety

theorem matchFlag_iff {c : MatchConfig} {r : MatchRegs} :
    matchFlag c r = true ↔ ∀ i, i < c.pattern.length → c.pattern[i]? = r.hist[i * c.spacing]? := by
  simp only [matchFlag, tapPosition, List.all_eq_true, List.mem_range, beq_iff_eq]

theorem sampleStrobe_eq_decide (c : AcqConfig) (r : AcqRegs) :
    sampleStrobe c r = decide (r.state = .sampling ∧ r.counter = c.sps - 1) :=
  (Bool.decide_and _ _).symm

theorem seqOutput_of_two {c : SeqConfig} (r : SeqRegs) (h : c.gateLat = .two) :
    seqOutput c r = if r.doneD2 then 0 else r.outReg := by
  simp only [seqOutput, h]

theorem seqOutput_of_zero {c : SeqConfig} (r : SeqRegs) (h : c.gateLat = .zero) :
    seqOutput c r = if r.done then 0 else r.outReg := by
  simp only [seqOutput, h]

section
variable {s : State}

theorem matchOut_of_config {c : MatchConfig} (hc : s.inst.matcher = some c) :
    s.matchOut = some (matchFlag c s.regs.matcher) := by rw [State.matchOut, hc, Option.map_some]

theorem acqOut_of_config {c : AcqConfig} (hc : s.inst.acq = some c) :
    s.acqOut = some ⟨sampleStrobe c s.regs.acq, s.regs.acq.state, s.regs.acq.eyeWidth⟩ := by
  rw [State.acqOut, hc, Option.map_some]

theorem seqOut_of_config {c : SeqConfig} (hc : s.inst.seq = some c) :
    s.seqOut = some ⟨seqOutput c s.regs.seq, s.regs.seq.done⟩ := by rw [State.seqOut, hc, Option.map_some]

end

/-- Settles O60: a port of a configured unit has a value, which is a function of the registers. -/
theorem outputPortsFollowRegisters : Obligations.OutputPortsFollowRegisters := by
  intro s
  refine ⟨fun c hc => ?nco, fun c hc => ?matcher, fun c hc => ?acq, fun c hc => ?cordic,
    fun c hc hgate => ?seqTwo, fun c hc hgate => ?seqZero, fun c hc => ?txi, fun c hc => ?rxi⟩
  case nco => rw [State.ncoOut, hc, Option.map_some]
  case matcher => rw [matchOut_of_config hc, Option.some.injEq, matchFlag_iff]
  case acq => rw [acqOut_of_config hc, sampleStrobe_eq_decide]
  case cordic => rw [State.cordicOut, hc, Option.map_some]
  case seqTwo => rw [seqOut_of_config hc, seqOutput_of_two _ hgate]
  case seqZero => rw [seqOut_of_config hc, seqOutput_of_zero _ hgate]
  case txi => rw [State.txiOut, hc, Option.map_some, txiDone]
  case rxi => rw [State.rxiOut, hc, Option.map_some, rxiDone]

end Sys2Proof.Proofs
end

section
/-! The operations of the correlator: what each writes (R121, R124 to R127), and what `MATCH.CONFIG` and `ACQ.CONFIG`
answer by their operands (R120, R129). -/

namespace Sys2Proof.Proofs

open Sys2Proof.Machine Sys2Proof.Safety

/-! ### MATCH.SHIFT (R121) -/

/-- The history after one sample. -/
def shiftedHist (input : Level) (hist : List Level) : List Level := hist.drop 1 ++ [input]

section
variable {input : Level} {hist : List Level}

theorem length_shiftedHist (hne : hist ≠ []) : (shiftedHist input hist).length = hist.length := by
  have hpos := List.length_pos_of_ne_nil hne
  rw [shiftedHist, List.length_append, List.length_drop, List.length_singleton]
  omega

theorem getElem?_shiftedHist_last : (shiftedHist input hist)[hist.length - 1]? = some input := by
  rw [shiftedHist, ← List.length_drop]
  exact List.getElem?_concat_length

theorem getElem?_shiftedHist_of_lt {j : Nat} (hj : j + 1 < hist.length) :
    (shiftedHist input hist)[j]? = hist[j + 1]? := by
  rw [shiftedHist, List.getElem?_append_left (by rw [List.length_drop]; omega), List.getElem?_drop, add_comm]

end

theorem exec_matchShift {s : State} {c : MatchConfig} (hc : s.inst.matcher = some c) :
    exec .matchShift s = .next (s.writeMatch ⟨shiftedHist s.inputs.matchInput s.regs.matcher.hist⟩) :=
  withConfig_eq_next_iff.mpr ⟨c, hc, rfl⟩

/-- Settles O24: a sample at position `j+1` is kept by the drop, and the input is appended. -/
theorem matchShiftResult : Obligations.MatchShiftResult := by
  intro s c hc hne
  have hlen : (shiftedHist s.inputs.matchInput s.regs.matcher.hist).length = s.regs.matcher.hist.length :=
    length_shiftedHist hne
  refine ⟨_, exec_matchShift hc, hlen, fun j hj => getElem?_shiftedHist_of_lt (hlen ▸ hj), ?_⟩
  rw [hlen]
  exact getElem?_shiftedHist_last

/-! ### The four operations of the acquisition FSM (R124 to R127) -/

/-- `counter` in SAMPLING counts modulo `SPS` (R127). -/
def acqNextCounter (a : AcqConfig) (counter : Nat) : Nat :=
  if counter = a.sps - 1 then 0 else (counter + 1) % 2 ^ a.cntBits

/-- The registers after `ACQ.MEASURE` (R126). -/
def acqMeasured (a : AcqConfig) (found : Level) (r : AcqRegs) : AcqRegs :=
  if found then ⟨.measuring, (r.eyeWidth + 1) % 2 ^ a.cntBits, r.counter⟩
  else ⟨.sampling, r.eyeWidth, acqCounterLoad a r.eyeWidth⟩

section
variable {s : State} {a : AcqConfig} {m : MatchConfig}

theorem exec_acqClr (st : BitVec 4) (ha : s.inst.acq = some a) :
    exec (.acqClr st) s = .next (s.writeAcq ⟨.searching, 0, 0⟩) :=
  withConfig_eq_next_iff.mpr ⟨a, ha, rfl⟩

/-- With both halves of the correlator configured, `match` is there to be read. -/
theorem withMatch_of_config (ha : s.inst.acq = some a) (hm : s.inst.matcher = some m)
    (f : AcqConfig → Level → Result) : withMatch s f = f a (matchFlag m s.regs.matcher) := by
  rw [withMatch, ha, withConfig_some, hm, withConfig_some]

theorem exec_acqSearch (ha : s.inst.acq = some a) (hm : s.inst.matcher = some m) :
    exec .acqSearch s = .next (s.writeAcq
      ⟨if matchFlag m s.regs.matcher then .measuring else .searching, 0, s.regs.acq.counter⟩) := by
  change execAcqSearch s = _
  rw [execAcqSearch, withMatch_of_config ha hm]

theorem exec_acqMeasure (ha : s.inst.acq = some a) (hm : s.inst.matcher = some m) :
    exec .acqMeasure s = .next (s.writeAcq (acqMeasured a (matchFlag m s.regs.matcher) s.regs.acq)) := by
  change execAcqMeasure s = _
  rw [execAcqMeasure, withMatch_of_config ha hm]
  cases matchFlag m s.regs.matcher <;> rfl

theorem exec_acqSample (ha : s.inst.acq = some a) :
    exec .acqSample s = .next (s.writeAcq
      ⟨.sampling, s.regs.acq.eyeWidth, acqNextCounter a s.regs.acq.counter⟩) :=
  withConfig_eq_next_iff.mpr ⟨a, ha, rfl⟩

end

/-- Settles O25: the next registers of each operation, by the value of `match` or of `counter`. -/
theorem acqOperationResults : Obligations.AcqOperationResults := by
  intro s a ha
  refine ⟨fun st => exec_acqClr st ha, fun hlast => ?_, fun hinner => ?_,
    fun m hm => ⟨fun hspells => ?_, fun hdiffers => ?_⟩⟩
  · rw [exec_acqSample ha, acqNextCounter, if_pos hlast]
    rfl
  · rw [exec_acqSample ha, acqNextCounter, if_neg hinner]
    rfl
  · have hflag : matchFlag m s.regs.matcher = true := matchFlag_iff.mpr hspells
    rw [exec_acqSearch ha hm, exec_acqMeasure ha hm, hflag]
    exact ⟨rfl, rfl⟩
  · have hflag : matchFlag m s.regs.matcher = false := Bool.eq_false_iff.mpr (mt matchFlag_iff.mp hdiffers)
    rw [exec_acqSearch ha hm, exec_acqMeasure ha hm, hflag]
    exact ⟨rfl, rfl⟩

/-! ### The operands of `MATCH.CONFIG` and `ACQ.CONFIG` (R120, R129) -/

theorem buildMatch_of_bad {p : MatchParams} (hbad : p.pattern = [] ∨ p.interval < 0) :
    buildMatch p = .error .corrBadParameter :=
  if_pos (hbad.imp_left fun hempty => hempty ▸ Nat.zero_lt_one)

theorem buildMatch_of_good {p : MatchParams} {interval : Nat} (hpattern : p.pattern ≠ [])
    (hinterval : p.interval = interval) : buildMatch p = .ok ⟨p, p.pattern, interval + 1⟩ :=
  buildMatch_eq_ok_iff.mpr ⟨List.length_pos_of_ne_nil hpattern, by omega, by rw [hinterval, Int.toNat_natCast]⟩

/-- The default of `CNT_BITS` is the least `CB >= 1` with `2^CB > SPS`, also where `SPS < 1` is refused. -/
theorem leastCounterBits_eq {sps cb : ℤ} (hpos : 1 ≤ cb) (hfits : sps < 2 ^ cb.toNat)
    (hleast : ∀ b : Nat, 1 ≤ b → (b : ℤ) < cb → 2 ^ b ≤ sps) : (leastCounterBits sps.toNat : ℤ) = cb := by
  lift cb to Nat using by omega
  rw [Int.toNat_natCast] at hfits
  have hlower : cb ≤ leastCounterBits sps.toNat := by
    by_contra! hlt
    have hle := hleast (leastCounterBits sps.toNat) (Nat.le_add_left 1 _) (by exact_mod_cast hlt)
    have hself : sps.toNat < 2 ^ leastCounterBits sps.toNat := Nat.lt_log2_self
    zify at hself
    omega
  have hupper : leastCounterBits sps.toNat ≤ cb := by
    rcases Nat.eq_zero_or_pos sps.toNat with hzero | hsps
    · rw [hzero]
      exact_mod_cast hpos
    · refine (Nat.log2_lt hsps.ne').mpr ?_
      zify
      omega
  exact_mod_cast le_antisymm hupper hlower

section
variable {interval sps cb : ℤ} {p : AcqParams}

/-- `SPS` is the presented one or `interval + 1`. -/
theorem acqSps_eq (hsps : p.sps = some sps ∨ (p.sps = none ∧ sps = interval + 1)) : acqSps interval p = sps := by
  rcases hsps with hsome | ⟨hnone, hdefault⟩
  · rw [acqSps, hsome, Option.getD_some]
  · rw [acqSps, hnone, Option.getD_none, hdefault]

/-- `CNT_BITS` is the presented one or the least that holds `SPS`. -/
theorem acqCntBits_eq (hsps : acqSps interval p = sps)
    (hcb : p.cntBits = some cb ∨ (p.cntBits = none ∧ 1 ≤ cb ∧ sps < 2 ^ cb.toNat ∧
      ∀ b : Nat, 1 ≤ b → (b : ℤ) < cb → 2 ^ b ≤ sps)) : acqCntBits interval p = cb := by
  rcases hcb with hsome | ⟨hnone, hpos, hfits, hleast⟩
  · rw [acqCntBits, hsome, Option.getD_some]
  · rw [acqCntBits, hnone, Option.getD_none, hsps, leastCounterBits_eq hpos hfits hleast]

variable (hsps : acqSps interval p = sps) (hcb : acqCntBits interval p = cb)
include hsps hcb

theorem buildAcq_of_bad (hbad : sps < 1 ∨ cb < 1 ∨ 2 ^ cb.toNat ≤ sps - 1) :
    buildAcq interval p = .error .corrBadParameter := by
  subst hsps hcb
  exact if_pos hbad

theorem buildAcq_of_good (hgood : ¬ (sps < 1 ∨ cb < 1 ∨ 2 ^ cb.toNat ≤ sps - 1)) :
    buildAcq interval p = .ok ⟨p, sps.toNat, cb.toNat⟩ := by
  subst hsps hcb
  exact if_neg hgood

end

/-! ### Their outcomes -/

section
variable {s : State} {cause : ConfigCause}

theorem exec_matchConfig_of_ok {c : MatchConfig} (h : buildMatch s.params.matcher = .ok c) :
    exec .matchConfig s = .next (s.installMatch c) :=
  configureWith_eq_next_iff.mpr (.inl ⟨c, h, rfl⟩)

theorem exec_matchConfig_of_error (h : buildMatch s.params.matcher = .error cause) :
    exec .matchConfig s = .next (s.raiseConfigurationError (.matcher s.params.matcher) cause) :=
  configureWith_eq_next_iff.mpr (.inr ⟨cause, h, rfl⟩)

theorem exec_acqConfig_of_ok {c : AcqConfig} (h : buildAcq s.params.matcher.interval s.params.acq = .ok c) :
    exec .acqConfig s = .next (s.installAcq c) :=
  configureWith_eq_next_iff.mpr (.inl ⟨c, h, rfl⟩)

theorem exec_acqConfig_of_error (h : buildAcq s.params.matcher.interval s.params.acq = .error cause) :
    exec .acqConfig s = .next (s.raiseConfigurationError (.acq s.params.acq) cause) :=
  configureWith_eq_next_iff.mpr (.inr ⟨cause, h, rfl⟩)

end

/-- Settles O26: the defaults are resolved first, then the operands are checked. -/
theorem correlatorConfigOutcome : Obligations.CorrelatorConfigOutcome := by
  intro s
  refine ⟨⟨fun hbad => exec_matchConfig_of_error (buildMatch_of_bad hbad),
    fun interval hpattern hinterval => exec_matchConfig_of_ok (buildMatch_of_good hpattern hinterval)⟩,
    fun sps cb hsps hcb => ?_⟩
  have hsps' := acqSps_eq hsps
  have hcb' := acqCntBits_eq hsps' hcb
  exact ⟨fun hbad => exec_acqConfig_of_error (buildAcq_of_bad hsps' hcb' hbad),
    fun hgood => exec_acqConfig_of_ok (buildAcq_of_good hsps' hcb' hgood)⟩

end Sys2Proof.Proofs
end

section
/-! The correlator in a run without reset: the history as a window on the input stream (R121, R122), and the acquisition
FSM through a run of matches (R125 to R127, R130). -/

namespace Sys2Proof.Proofs

open Sys2Proof.Machine Sys2Proof.Safety

/-! ### One tick of a run without reset -/

section
variable {d n : Nat} {σ : Nat → State}

/-- What the operation of a present place writes in a tick of the run is what lands. -/
theorem TickRun.lands_of_present {α : Type} {p : Slot} {k : Nat} (hrun : TickRun d n σ) (hlow : RstLow d n σ)
    (hmem : p ∈ members (σ 0) d) (hk : k < n)
    (hpresent : (tickStart (σ k) (σ (k + 1))).present false p = true) (get : Regs → α) {r : α}
    (hexec : ∀ next v, ∃ u, exec (runningOperation (tickStart (σ k) (σ (k + 1))) p)
      ((running (tickStart (σ k) (σ (k + 1))) next v).focusSlot p) = .next u ∧ get u.next = r) :
    get (σ (k + 1)).regs = r := by
  obtain ⟨⟨levels, rest, hs⟩, h⟩ := hrun k hk
  have hwrites := step_tick_writes hs h
  rw [hlow k hk] at hwrites
  exact hwrites.lands_of_present ((TickRun.inst_members hrun hk.le).2 ▸ hmem) hpresent get hexec

/-- Each tick of the run shifts the history of a configured matcher. -/
theorem TickRun.hist_shifted {c : MatchConfig} {k : Nat} (hrun : TickRun d n σ) (hlow : RstLow d n σ)
    (hmem : .matcher ∈ members (σ 0) d) (hc : (σ 0).inst.matcher = some c) (hk : k < n) :
    (σ (k + 1)).regs.matcher.hist = shiftedHist (σ (k + 1)).inputs.matchInput (σ k).regs.matcher.hist := by
  have hc' : (tickStart (σ k) (σ (k + 1))).inst.matcher = some c :=
    (congrArg Instances.matcher (TickRun.inst_members hrun hk).1).trans hc
  have hpresent : (tickStart (σ k) (σ (k + 1))).present false .matcher = true := by
    simp [State.present, State.stands, hc']
  exact TickRun.lands_of_present hrun hlow hmem hk hpresent (·.matcher.hist) fun next v =>
    ⟨_, exec_matchShift (s := running (tickStart (σ k) (σ (k + 1))) next v) hc', rfl⟩

end

/-! ### The history as a window on the input stream (R121) -/

/-- The sample of index `k - l`: the level of `input` in that tick, and 0 before there was one. -/
def sampleAt (σ : Nat → State) (l k : Nat) : Level :=
  if l ≤ k then (σ (k - l + 1)).inputs.matchInput else false

theorem TickRun.hist_window {d n l : Nat} {σ : Nat → State} {c : MatchConfig} (hrun : TickRun d n σ)
    (hlow : RstLow d n σ) (hmem : .matcher ∈ members (σ 0) d) (hc : (σ 0).inst.matcher = some c) (hl : 1 ≤ l)
    (hstart : (σ 0).regs.matcher.hist = List.replicate l false) (t : Nat) (ht : t ≤ n) :
    (σ t).regs.matcher.hist.length = l ∧
      ∀ j, j < l → (σ t).regs.matcher.hist[j]? = some (sampleAt σ l (t + j)) := by
  induction t with
  | zero =>
    rw [hstart]
    refine ⟨List.length_replicate, fun j hj => ?_⟩
    rw [List.getElem?_replicate_of_lt hj, sampleAt, if_neg (by omega)]
  | succ t ih =>
    obtain ⟨hlen, hwindow⟩ := ih (Nat.le_of_succ_le ht)
    have hne : (σ t).regs.matcher.hist ≠ [] := List.ne_nil_of_length_pos (by omega)
    rw [TickRun.hist_shifted hrun hlow hmem hc ht]
    refine ⟨(length_shiftedHist hne).trans hlen, fun j hj => ?_⟩
    rcases Nat.lt_or_ge (j + 1) l with hinner | htop
    · rw [getElem?_shiftedHist_of_lt (hlen ▸ hinner), hwindow _ hinner, add_right_comm, add_assoc]
    · obtain rfl : j = (σ t).regs.matcher.hist.length - 1 := by omega
      have hsample : t + 1 + ((σ t).regs.matcher.hist.length - 1) = l + t := by omega
      rw [getElem?_shiftedHist_last, hsample, sampleAt, if_pos (Nat.le_add_right l t), Nat.add_sub_cancel_left]

/-- Every tap lies in the history. -/
theorem tap_lt {c : MatchConfig} {i : Nat} (hi : i < c.pattern.length) :
    i * c.spacing < (c.pattern.length - 1) * c.spacing + 1 :=
  Nat.lt_succ_of_le (Nat.mul_le_mul_right _ (Nat.le_sub_one_of_lt hi))

/-- Settles O27: `match` compares the pattern with the window at the taps. -/
theorem matchFollowsInputStream : Obligations.MatchFollowsInputStream := by
  intro d n σ c l hrun hlow hmem hc hl hstart t ht
  obtain ⟨hlen, hwindow⟩ := TickRun.hist_window hrun hlow hmem hc (by omega) hstart t ht
  have hc' : (σ t).inst.matcher = some c := (congrArg Instances.matcher (TickRun.inst_members hrun ht).1).trans hc
  refine ⟨hlen, hwindow, ?_⟩
  rw [matchOut_of_config hc', Option.some.injEq, matchFlag_iff]
  exact forall₂_congr fun i hi => by rw [hwindow _ (hl ▸ tap_lt hi), sampleAt]

/-! ### The acquisition FSM tick by tick (R125 to R128) -/

/-- The registers of the acquisition FSM after a tick in which no reset is held. -/
def acqTicked (a : AcqConfig) (found : Level) (r : AcqRegs) : AcqRegs :=
  match r.state with
  | .searching => ⟨if found then .measuring else .searching, 0, r.counter⟩
  | .measuring => acqMeasured a found r
  | .sampling => ⟨.sampling, r.eyeWidth, acqNextCounter a r.counter⟩

theorem exec_acqOperation {s : State} {a : AcqConfig} {m : MatchConfig} (ha : s.inst.acq = some a)
    (hm : s.inst.matcher = some m) :
    exec (acqOperation s.regs.acq.state) s =
      .next (s.writeAcq (acqTicked a (matchFlag m s.regs.matcher) s.regs.acq)) := by
  unfold acqTicked
  cases s.regs.acq.state with
  | searching => exact exec_acqSearch ha hm
  | measuring => exact exec_acqMeasure ha hm
  | sampling => exact exec_acqSample ha

/-- A tick of a run without reset, the FSM's own reset input being low too. -/
theorem TickRun.acq_ticked {d n k : Nat} {σ : Nat → State} {a : AcqConfig} {c : MatchConfig} {found : Level}
    (hrun : TickRun d n σ) (hlow : RstLow d n σ) (hmem : .acq ∈ members (σ 0) d) (ha : (σ 0).inst.acq = some a)
    (hc : (σ 0).inst.matcher = some c) (hk : k < n) (hfound : (σ k).matchOut = some found)
    (hreset : (σ (k + 1)).inputs.acqReset = false) :
    (σ (k + 1)).regs.acq = acqTicked a found (σ k).regs.acq := by
  have hinst : (tickStart (σ k) (σ (k + 1))).inst = (σ 0).inst := (TickRun.inst_members hrun hk).1
  have ha' : (tickStart (σ k) (σ (k + 1))).inst.acq = some a := (congrArg Instances.acq hinst).trans ha
  have hc' : (tickStart (σ k) (σ (k + 1))).inst.matcher = some c := (congrArg Instances.matcher hinst).trans hc
  have hpresent : (tickStart (σ k) (σ (k + 1))).present false .acq = true := by
    simp [State.present, State.stands, ha', hc']
  have hop : runningOperation (tickStart (σ k) (σ (k + 1))) .acq = acqOperation (σ k).regs.acq.state :=
    if_neg (Bool.eq_false_iff.mp hreset)
  have hflag : matchFlag c (σ k).regs.matcher = found := by
    rw [matchOut_of_config ((congrArg Instances.matcher (TickRun.inst_members hrun hk.le).1).trans hc)] at hfound
    exact Option.some.inj hfound
  refine TickRun.lands_of_present hrun hlow hmem hk hpresent (·.acq) fun next v => ?_
  rw [hop, ← hflag]
  exact ⟨_, exec_acqOperation (s := running (tickStart (σ k) (σ (k + 1))) next v) ha' hc', rfl⟩

/-! ### The registers through a match run of `m` ticks (R130) -/

/-- In SAMPLING `counter` counts modulo `SPS`, where it can hold `SPS - 1` (R129). -/
theorem acqNextCounter_mod {a : AcqConfig} (hsps : 1 ≤ a.sps) (hbits : a.sps ≤ 2 ^ a.cntBits) (v : Nat) :
    acqNextCounter a (v % a.sps) = (v + 1) % a.sps := by
  have hlt : v % a.sps < a.sps := Nat.mod_lt _ hsps
  rw [acqNextCounter, ← Nat.mod_add_mod v]
  split
  case isTrue hlast => rw [hlast, Nat.sub_add_cancel hsps, Nat.mod_self]
  case isFalse hinner =>
    have hnext : v % a.sps + 1 < a.sps := by omega
    rw [Nat.mod_eq_of_lt hnext, Nat.mod_eq_of_lt (hnext.trans_le hbits)]

section
variable {a : AcqConfig} {m n : Nat} {r : Nat → AcqRegs}
  (hticked : ∀ k, k < n → r (k + 1) = acqTicked a (decide (k < m)) (r k))
  (hstart : (r 0).state = .searching) (hm : 1 ≤ m) (heye : m - 1 < 2 ^ a.cntBits)
include hticked hstart hm heye

/-- MEASURING lasts as long as the matches, one tick later; `eye_width` counts them. -/
theorem acq_measuring (k : Nat) (hkm : k < m) (hkn : k < n) :
    (r (k + 1)).state = .measuring ∧ (r (k + 1)).eyeWidth = k := by
  induction k with
  | zero =>
    rw [hticked 0 hkn, acqTicked, hstart, decide_eq_true hkm]
    exact ⟨rfl, rfl⟩
  | succ k ih =>
    obtain ⟨hstate, hwidth⟩ := ih (Nat.lt_of_succ_lt hkm) (Nat.lt_of_succ_lt hkn)
    rw [hticked _ hkn, acqTicked, hstate, decide_eq_true hkm, acqMeasured, hwidth]
    exact ⟨rfl, Nat.mod_eq_of_lt (by omega)⟩

/-- The loss of `match` loads `counter` with the centre of the run, from which SAMPLING counts modulo `SPS`. -/
theorem acq_sampling (hcentre : (m - 1) / 2 + 1 ≤ a.sps - 1) (hbits : a.sps ≤ 2 ^ a.cntBits) (j : Nat)
    (hj : m + j < n) : (r (m + j + 1)).state = .sampling ∧
      (r (m + j + 1)).counter = ((m - 1) / 2 + 1 + j) % a.sps := by
  induction j with
  | zero =>
    obtain ⟨hstate, hwidth⟩ : (r m).state = .measuring ∧ (r m).eyeWidth = m - 1 := by
      have hlast := acq_measuring hticked hstart hm heye (m - 1) (by omega) (by omega)
      rwa [Nat.sub_add_cancel hm] at hlast
    have hlost : decide (m < m) = false := decide_eq_false (lt_irrefl m)
    rw [add_zero, hticked m hj, acqTicked, hstate, hlost, acqMeasured, hwidth]
    refine ⟨rfl, ?_⟩
    change ((m - 1) / 2 + 1) % 2 ^ a.cntBits = ((m - 1) / 2 + 1) % a.sps
    rw [Nat.mod_eq_of_lt (by omega), Nat.mod_eq_of_lt (by omega)]
  | succ j ih =>
    obtain ⟨hstate, hcounter⟩ := ih (by omega)
    rw [← add_assoc, hticked (m + j + 1) hj, acqTicked, hstate, hcounter, acqNextCounter_mod (by omega) hbits]
    exact ⟨rfl, rfl⟩

end

/-- A counter modulo `sps` stands at its last value once per period. -/
theorem mod_eq_last_iff {sps v : Nat} (hsps : 1 ≤ sps) : v % sps = sps - 1 ↔ ∃ q, v = sps - 1 + q * sps := by
  constructor
  · intro hlast
    exact ⟨v / sps, by rw [← hlast, mul_comm, Nat.mod_add_div]⟩
  · rintro ⟨q, rfl⟩
    rw [Nat.add_mul_mod_self_right, Nat.mod_eq_of_lt (by omega)]

/-- The centre of a run of an odd number of ticks. -/
theorem odd_run_centre {m : Nat} (hodd : m % 2 = 1) (sps : Nat) :
    m + sps - 1 - (m - 1) / 2 = (m - 1) / 2 + sps := by
  omega

/-- Settles O28: no strobe before SAMPLING, and then one per period of `counter`. -/
theorem acqStrobeAlignment : Obligations.AcqStrobeAlignment := by
  intro d n σ a c m hrun hlow hmem ha hc hsps hbits hstart hm hcentre heye hmatch hreset k hk
  have hticked : ∀ k, k < n → (σ (k + 1)).regs.acq = acqTicked a (decide (k < m)) (σ k).regs.acq := fun k hk =>
    TickRun.acq_ticked hrun hlow hmem ha hc hk (hmatch k hk) (hreset k hk)
  have hmeasuring : 1 ≤ k → k ≤ m → (σ k).regs.acq.state = .measuring := fun hpos hkm => by
    obtain ⟨k, rfl⟩ := Nat.exists_eq_add_of_le' hpos
    exact (acq_measuring (r := fun k => (σ k).regs.acq) hticked hstart hm heye k hkm hk).1
  have hsampling : ∀ j, k = m + j + 1 → (σ k).regs.acq.state = .sampling ∧
      (σ k).regs.acq.counter = ((m - 1) / 2 + 1 + j) % a.sps := by
    rintro j rfl
    exact acq_sampling (r := fun k => (σ k).regs.acq) hticked hstart hm heye hcentre hbits j hk
  have hstrobe : sampleStrobe a (σ k).regs.acq = true ↔ ∃ q, k = m + a.sps - 1 - (m - 1) / 2 + q * a.sps := by
    rw [sampleStrobe_eq_decide, decide_eq_true_iff]
    rcases Nat.lt_or_ge m k with hafter | hbefore
    · obtain ⟨j, rfl⟩ := Nat.exists_eq_add_of_lt hafter
      obtain ⟨hstate, hcounter⟩ := hsampling j rfl
      rw [hcounter, mod_eq_last_iff hsps]
      exact (and_iff_right hstate).trans (exists_congr fun q => by omega)
    · have hstate : (σ k).regs.acq.state ≠ .sampling := by
        rcases Nat.eq_zero_or_pos k with rfl | hpos
        · simp [hstart]
        · simp [hmeasuring hpos hbefore]
      refine iff_of_false (fun h => hstate h.1) ?_
      rintro ⟨q, hq⟩
      omega
  refine ⟨hmeasuring, fun hafter => ?_, fun hfirst => ?_, hstrobe, fun hodd => ?_⟩
  · obtain ⟨j, hj⟩ := Nat.exists_eq_add_of_lt hafter
    exact (hsampling j hj).1
  · rw [(hsampling 0 hfirst).2, add_zero, Nat.mod_eq_of_lt (by omega)]
  · rw [hstrobe, odd_run_centre hodd]

end Sys2Proof.Proofs
end

section
/-! The CORDIC pipeline: the outcome of `CORDIC.CONFIG` and the inequalities of its constants (R140, R147 (b)),
`CORDIC.TICK` register by register (R141 to R144), and the ranks and `OUT` along a run (R145, R147 (b), R149). -/

namespace Sys2Proof.Proofs

open Sys2Proof.Machine Sys2Proof.Safety

/-! ### CORDIC.CONFIG (R140) -/

theorem buildCordic_of_bad {p : CordicParams} (hbad : p.bitDepth < 4 ∨ p.stages < 1) :
    buildCordic p = .error .cordicBadParameter :=
  if_pos hbad

section
variable {s : State}

theorem exec_cordicConfig_of_ok {c : CordicConfig} (h : buildCordic s.params.cordic = .ok c) :
    exec .cordicConfig s = .next (s.installCordic c) :=
  configureWith_eq_next_iff.mpr (.inl ⟨c, h, rfl⟩)

theorem exec_cordicConfig_of_error {cause : ConfigCause} (h : buildCordic s.params.cordic = .error cause) :
    exec .cordicConfig s = .next (s.raiseConfigurationError (.cordic s.params.cordic) cause) :=
  configureWith_eq_next_iff.mpr (.inr ⟨cause, h, rfl⟩)

end

/-- Settles O30: the operands are checked before a constant is computed. -/
theorem cordicConfigOutcome : Obligations.CordicConfigOutcome := fun _ =>
  ⟨fun hbad => exec_cordicConfig_of_error (buildCordic_of_bad hbad),
    fun hbits hstages => ⟨_, _, Int.toNat_of_nonneg (by omega), Int.toNat_of_nonneg (by omega),
      exec_cordicConfig_of_ok (buildCordic_eq_ok_iff.mpr ⟨hbits, hstages, rfl⟩)⟩⟩

/-! ### The constants for `B` in 4..32 (R147 (b)) -/

theorem cordicDelta_nonneg (k i : Nat) : 0 ≤ cordicDelta k i := by
  rw [cordicDelta_eq_round, round_eq]
  have harctan : 0 ≤ Real.arctan ((2 : ℝ)⁻¹ ^ i) := Real.arctan_nonneg.mpr (by positivity)
  exact Int.floor_nonneg.mpr (by positivity)

/-- More stages only add to the sum of the constants. -/
theorem sum_cordicDelta_mono (k : Nat) {m n : Nat} (h : m ≤ n) :
    ((List.range m).map (cordicDelta k)).sum ≤ ((List.range n).map (cordicDelta k)).sum := by
  refine ((List.range_sublist.mpr h).map _).sum_le_sum fun δ hδ => ?_
  obtain ⟨i, -, rfl⟩ := List.mem_map.mp hδ
  exact cordicDelta_nonneg k i

/-- Enclosures of 29 scales, evaluated. -/
theorem cordicConstants_decided_first : ∀ b, b < 29 →
    (∀ i, i < 64 → (decidedDelta b i).isSome = true) ∧ (decidedPi b).isSome = true ∧
    (decidedTwoPi b).isSome = true := by
  decide +kernel

/-- The inequalities of R147 (b) at the largest number of stages, evaluated. -/
theorem cordicConstants_inequalities : ∀ b, b < 29 →
    ((List.range 64).map (cordicDelta b)).sum ≤ cordicPi b ∧
    cordicPi b + ((List.range 64).map (cordicDelta b)).sum < cordicTwoPi b ∧
    cordicTwoPi b < 2 ^ (b + 3) := by
  decide +kernel

/-- Settles O32: the sum of 64 constants bounds that of fewer. -/
theorem cordicConstantsDecided : Obligations.CordicConstantsDecided := by
  intro b hb
  obtain ⟨hdelta, hpi, htwoPi⟩ := cordicConstants_decided_first b hb
  obtain ⟨hsum, hturn, hfit⟩ := cordicConstants_inequalities b hb
  refine ⟨hdelta, hpi, htwoPi, fun n hn => ?_⟩
  have hn64 : n ≤ 64 := (by decide : ∀ n ∈ [1, 2, 4, 8, 16, 32, 64], n ≤ 64) n hn
  have hmono := sum_cordicDelta_mono b hn64
  exact ⟨hmono.trans hsum, by linarith, hfit⟩

/-! ### CORDIC.TICK (R141 to R144) -/

/-- The value at a signed port is the one `n`-bit value that differs by a multiple of `2^n`. -/
theorem signedPort_eq {n : Nat} (hn : 1 ≤ n) {v x : ℤ} (hlow : -(2 ^ (n - 1)) ≤ x) (hhigh : x < 2 ^ (n - 1))
    (hdvd : 2 ^ n ∣ v - x) : signedPort n v = x := by
  obtain ⟨m, rfl⟩ := Nat.exists_eq_add_of_le' hn
  rw [Nat.add_sub_cancel] at hlow hhigh
  refine (Int.bmod_eq_iff (by positivity)).mpr ?_
  push_cast [pow_succ] at hdvd ⊢
  exact ⟨by omega, by omega, dvd_sub_comm.mp hdvd⟩

theorem getElem?_cordicNextRanks_succ {c : CordicConfig} {i : Inputs} {ranks : List Rank} {k : Nat} {q : Rank}
    {δ : ℤ} (hq : ranks[k]? = some q) (hδ : c.delta[k]? = some δ) :
    (cordicNextRanks c i ranks)[k + 1]? = some (cordicIter k δ q) := by
  have hiter := getElem?_cordicIterFrom_eq_some_iff (first := 0).mpr ⟨δ, q, hδ, hq, rfl⟩
  rwa [Nat.zero_add] at hiter

theorem length_cordicNextRanks {c : CordicConfig} {ranks : List Rank} (i : Inputs)
    (hdelta : c.delta.length = c.stages) (hranks : ranks.length = c.stages + 1) :
    (cordicNextRanks c i ranks).length = c.stages + 1 := by
  rw [cordicNextRanks, List.length_cons, length_cordicIterFrom, hdelta, hranks,
    Nat.min_eq_left (Nat.le_succ _)]

/-- Settles O29: the rank `P[S]` is there, and the port values are the ones given. -/
theorem cordicTickResult : Obligations.CordicTickResult := by
  intro s c x y hc hbits hdelta hranks hxlow hxhigh hx hylow hyhigh hy
  have hbits' : 1 ≤ c.bitDepth := by omega
  have hportX : cordicPortX c s.inputs = x := signedPort_eq hbits' hxlow hxhigh hx
  have hportY : cordicPortY c s.inputs = y := signedPort_eq hbits' hylow hyhigh hy
  obtain ⟨last, hlast⟩ : ∃ last, s.regs.cordic.ranks[c.stages]? = some last :=
    ⟨_, List.getElem?_eq_getElem (by omega)⟩
  refine ⟨cordicNextRanks c s.inputs s.regs.cordic.ranks, last, hlast,
    (execCordicTick_eq_next_iff hc).mpr ⟨last, hlast, rfl⟩, length_cordicNextRanks _ hdelta hranks, ?_,
    fun i r δ hr hδ => getElem?_cordicNextRanks_succ hr hδ⟩
  rw [cordicNextRanks, hportX, hportY]
  rfl

/-! ### The result of an input, rank by rank (R145) -/

theorem cordicRotate_append (first : Nat) (ds : List ℤ) (δ : ℤ) (r : Rank) :
    cordicRotate first (ds ++ [δ]) r = cordicIter (first + ds.length) δ (cordicRotate first ds r) := by
  induction ds generalizing first r with
  | nil => rfl
  | cons d ds ih =>
    rw [List.cons_append, cordicRotate, ih, cordicRotate, List.length_cons, Nat.add_right_comm, Nat.add_assoc]

/-- The next of the iterations of a list of constants. -/
theorem cordicRotate_take_succ {ds : List ℤ} {k : Nat} {δ : ℤ} (hδ : ds[k]? = some δ) (r : Rank) :
    cordicRotate 0 (ds.take (k + 1)) r = cordicIter k δ (cordicRotate 0 (ds.take k) r) := by
  obtain ⟨hk, -⟩ := List.getElem?_eq_some_iff.mp hδ
  rw [List.take_add_one, hδ, Option.toList_some, cordicRotate_append, Nat.zero_add,
    List.length_take_of_le hk.le]

section
variable {d n : Nat} {σ : Nat → State} {c : CordicConfig}

/-- A tick of a run without reset is a `CORDIC.TICK`. -/
theorem TickRun.cordic_ticked {k : Nat} (hrun : TickRun d n σ) (hlow : RstLow d n σ)
    (hmem : .cordic ∈ members (σ 0) d) (hc : (σ 0).inst.cordic = some c) (hk : k < n) :
    ∃ last, (σ k).regs.cordic.ranks[c.stages]? = some last ∧
      (σ (k + 1)).regs.cordic = cordicTicked c (σ (k + 1)).inputs (σ k).regs.cordic last := by
  obtain ⟨⟨levels, rest, hs⟩, h⟩ := hrun k hk
  obtain ⟨hinst, hmembers⟩ := TickRun.inst_members hrun hk.le
  rcases step_tick_cordic hs h (hmembers ▸ hmem) (hinst ▸ hc) with ⟨hrst, -⟩ | ⟨-, hticked⟩
  · rw [hlow k hk] at hrst
    cases hrst
  · exact hticked

/-- The inputs of tick `t` are at rank `k` after `k` more ticks, with `k` iterations done. -/
theorem TickRun.rank_rotated (hrun : TickRun d n σ) (hlow : RstLow d n σ) (hmem : .cordic ∈ members (σ 0) d)
    (hc : (σ 0).inst.cordic = some c) (hdelta : c.delta.length = c.stages) (t k : Nat) (hk : k ≤ c.stages)
    (ht : t + k < n) :
    (σ (t + k + 1)).regs.cordic.ranks[k]? = some (cordicRotate 0 (c.delta.take k)
      (cordicFlip (cordicPortX c (σ (t + 1)).inputs) (cordicPortY c (σ (t + 1)).inputs))) := by
  induction k with
  | zero =>
    obtain ⟨last, -, hticked⟩ := TickRun.cordic_ticked hrun hlow hmem hc ht
    rw [hticked]
    rfl
  | succ k ih =>
    obtain ⟨last, -, hticked⟩ := TickRun.cordic_ticked hrun hlow hmem hc ht
    obtain ⟨δ, hδ⟩ : ∃ δ, c.delta[k]? = some δ := ⟨_, List.getElem?_eq_getElem (by omega)⟩
    rw [hticked, cordicRotate_take_succ hδ]
    exact getElem?_cordicNextRanks_succ (ih (Nat.le_of_succ_le hk) (Nat.lt_of_succ_lt ht)) hδ

end

/-- Settles O33: with all `S` iterations done the input is at rank `P[S]`, and the next tick takes `final` of it. -/
theorem cordicLatency : Obligations.CordicLatency := by
  intro d n σ c hrun hlow hmem hc hdelta _ t ht
  have hrotated := TickRun.rank_rotated hrun hlow hmem hc hdelta t c.stages le_rfl (by omega)
  obtain ⟨last, hlast, hticked⟩ := TickRun.cordic_ticked (k := t + c.stages + 1) hrun hlow hmem hc ht
  obtain rfl := Option.some.inj (hlast.symm.trans hrotated)
  rw [hticked, ← hdelta, List.take_length]
  rfl

/-! ### The first ticks after reset (R149) -/

/-- Rank `k` after `t <= k` ticks from reset: zeros that have passed through the last `t` iterations before it. -/
def warmRank (c : CordicConfig) (t k : Nat) : Rank := ⟨0, 0, ((c.delta.take k).drop (k - t)).sum, false⟩

section
variable {d n : Nat} {σ : Nat → State} {c : CordicConfig}

theorem warmRank_zero (k : Nat) : warmRank c 0 k = ⟨0, 0, 0, false⟩ := by
  rw [warmRank, Nat.sub_zero, List.drop_eq_nil_of_le (List.length_take_le _ _), List.sum_nil]

theorem cordicIter_warmRank {t k : Nat} {δ : ℤ} (hδ : c.delta[k]? = some δ) :
    cordicIter k δ (warmRank c t k) = warmRank c (t + 1) (k + 1) := by
  obtain ⟨hk, -⟩ := List.getElem?_eq_some_iff.mp hδ
  have hle : k - t ≤ (c.delta.take k).length := by rw [List.length_take_of_le hk.le]; exact Nat.sub_le _ _
  have hsum : ((c.delta.take (k + 1)).drop (k - t)).sum = ((c.delta.take k).drop (k - t)).sum + δ := by
    rw [List.take_add_one, hδ, Option.toList_some, List.drop_append_of_le_length hle, List.sum_append,
      List.sum_singleton]
  simp [cordicIter, warmRank, asr, hsum]

theorem TickRun.rank_warm (hrun : TickRun d n σ) (hlow : RstLow d n σ) (hmem : .cordic ∈ members (σ 0) d)
    (hc : (σ 0).inst.cordic = some c) (hdelta : c.delta.length = c.stages)
    (hstart : (σ 0).regs.cordic = cordicResetRegs c) (t : Nat) (ht : t ≤ n) :
    ∀ k, t ≤ k → k ≤ c.stages → (σ t).regs.cordic.ranks[k]? = some (warmRank c t k) := by
  induction t with
  | zero =>
    intro k _ hk
    rw [hstart, warmRank_zero]
    exact List.getElem?_replicate_of_lt (Nat.lt_succ_of_le hk)
  | succ t ih =>
    intro k htk hk
    obtain ⟨k, rfl⟩ := Nat.exists_eq_add_of_le' (Nat.one_le_of_lt htk)
    obtain ⟨last, -, hticked⟩ := TickRun.cordic_ticked hrun hlow hmem hc ht
    obtain ⟨δ, hδ⟩ : ∃ δ, c.delta[k]? = some δ := ⟨_, List.getElem?_eq_getElem (by omega)⟩
    rw [hticked, ← cordicIter_warmRank hδ]
    exact getElem?_cordicNextRanks_succ (ih (Nat.le_of_succ_le ht) k (by omega) (by omega)) hδ

/-- `final` of such a rank, its angle being no less than 0. -/
theorem cordicFinalAngle_warmRank (hnonneg : ∀ δ ∈ c.delta, 0 ≤ δ) (t k : Nat) :
    cordicFinalAngle c (warmRank c t k) = ((c.delta.take k).drop (k - t)).sum := by
  have hsum : 0 ≤ ((c.delta.take k).drop (k - t)).sum :=
    List.sum_nonneg fun δ hδ => hnonneg δ (List.mem_of_mem_take (List.mem_of_mem_drop hδ))
  exact if_neg (not_lt.mpr hsum)

end

/-- Settles O34: in these ticks `P[S]` is still a reset rank that has passed through the last iterations. -/
theorem cordicWarmUp : Obligations.CordicWarmUp := by
  intro d n σ c hrun hlow hmem hc hdelta hnonneg hstart t ht hts
  cases t with
  | zero =>
    rw [hstart, List.drop_eq_nil_of_le (by omega)]
    exact ⟨rfl, rfl⟩
  | succ t =>
    have hwarm := TickRun.rank_warm hrun hlow hmem hc hdelta hstart t (by omega) c.stages (by omega) le_rfl
    obtain ⟨last, hlast, hticked⟩ := TickRun.cordic_ticked hrun hlow hmem hc ht
    obtain rfl := Option.some.inj (hlast.symm.trans hwarm)
    have hangle := cordicFinalAngle_warmRank hnonneg t c.stages
    rw [← hdelta, List.take_length, hdelta] at hangle
    rw [hticked, Nat.add_sub_add_right]
    exact ⟨rfl, hangle⟩

/-! ### The range of the angle (R147 (b)) -/

/-- R147 (b): the angle of rank `k` is a signed sum of the first `k` constants, and that of `OUT` is in range. -/
structure AnglesBounded (c : CordicConfig) (r : CordicRegs) : Prop where
  ranks : ∀ k q, r.ranks[k]? = some q → |q.angle| ≤ (c.delta.take k).sum
  outNonneg : 0 ≤ r.angle
  outBound : r.angle < c.twoPiFix

theorem cordicFlip_angle (x y : ℤ) : (cordicFlip x y).angle = 0 := by
  rw [cordicFlip]
  split <;> rfl

theorem abs_cordicIter_angle_le (i : Nat) {δ : ℤ} (hδ : 0 ≤ δ) (r : Rank) :
    |(cordicIter i δ r).angle| ≤ |r.angle| + δ := by
  rw [cordicIter]
  split
  · simpa only [abs_of_nonneg hδ] using abs_sub r.angle δ
  · simpa only [abs_of_nonneg hδ] using abs_add_le r.angle δ

section
variable {c : CordicConfig}

theorem cordicFinalAngle_range {q : Rank} (hq : |q.angle| ≤ c.delta.sum) (hhalf : c.delta.sum ≤ c.piFix)
    (hturn : c.piFix + c.delta.sum < c.twoPiFix) :
    0 ≤ cordicFinalAngle c q ∧ cordicFinalAngle c q < c.twoPiFix := by
  obtain ⟨hlow, hhigh⟩ := abs_le.mp hq
  rw [cordicFinalAngle]
  split_ifs <;> constructor <;> linarith

theorem anglesBounded_reset (hnonneg : ∀ δ ∈ c.delta, 0 ≤ δ) (hhalf : c.delta.sum ≤ c.piFix)
    (hturn : c.piFix + c.delta.sum < c.twoPiFix) : AnglesBounded c (cordicResetRegs c) where
  ranks k q hq := by
    obtain rfl := List.eq_of_mem_replicate (List.mem_of_getElem? hq)
    exact List.sum_nonneg fun δ hδ => hnonneg δ (List.mem_of_mem_take hδ)
  outNonneg := le_rfl
  outBound := by
    have hsum := List.sum_nonneg hnonneg
    change 0 < c.twoPiFix
    linarith

theorem AnglesBounded.ticked {r : CordicRegs} {last : Rank} (h : AnglesBounded c r)
    (hdelta : c.delta.length = c.stages) (hnonneg : ∀ δ ∈ c.delta, 0 ≤ δ) (hhalf : c.delta.sum ≤ c.piFix)
    (hturn : c.piFix + c.delta.sum < c.twoPiFix) (i : Inputs) (hlast : r.ranks[c.stages]? = some last) :
    AnglesBounded c (cordicTicked c i r last) := by
  have hbound : |last.angle| ≤ c.delta.sum := by
    have hrank := h.ranks _ _ hlast
    rwa [← hdelta, List.take_length] at hrank
  obtain ⟨hout, hout'⟩ := cordicFinalAngle_range hbound hhalf hturn
  refine ⟨fun k q hq => ?_, hout, hout'⟩
  cases k with
  | zero =>
    obtain rfl : cordicFlip (cordicPortX c i) (cordicPortY c i) = q := Option.some.inj hq
    rw [cordicFlip_angle]
    exact le_rfl
  | succ k =>
    obtain ⟨δ, p, hδ, hp, rfl⟩ := getElem?_cordicIterFrom_eq_some_iff.mp hq
    calc |(cordicIter (0 + k) δ p).angle|
        ≤ |p.angle| + δ := abs_cordicIter_angle_le _ (hnonneg δ (List.mem_of_getElem? hδ)) p
      _ ≤ (c.delta.take k).sum + δ := by gcongr; exact h.ranks k p hp
      _ = (c.delta.take (k + 1)).sum := by
        rw [List.take_add_one, hδ, Option.toList_some, List.sum_append, List.sum_singleton]

end

/-- Settles O35: every rank's angle is a signed sum of constants, which `final` brings into range. -/
theorem cordicAngleInRange : Obligations.CordicAngleInRange := by
  intro d n σ c hrun hmem hc hdelta hnonneg hhalf hturn hstart t ht
  have hbounded : AnglesBounded c (σ t).regs.cordic :=
    TickRun.cordic_induction hrun hmem hc hstart (anglesBounded_reset hnonneg hhalf hturn)
      (fun i _ _ hlast h => h.ticked hdelta hnonneg hhalf hturn i hlast) t ht
  exact ⟨hbounded.outNonneg, hbounded.outBound⟩

end Sys2Proof.Proofs
end

section
/-! The sequencer in playback: what a tick makes of its registers (R161, R164 to R166), the closed form of a whole
playback (R168), and the replay after a tick with `reset = 1` (R169). -/

namespace Sys2Proof.Proofs

open Sys2Proof.Machine Sys2Proof.Safety

/-! ### The counters and the lookup of one tick -/

/-- The registers that say how far the playback is. -/
structure SeqCounters where
  symbolIndex : Nat
  sampleIndex : Nat
  done : Bool

def seqCounters (r : SeqRegs) : SeqCounters := ⟨r.symbolIndex, r.sampleIndex, r.done⟩

/-- The counters after a tick in which no reset is held: those of `SEQ.IDLE` once `done`, else those of `SEQ.RUN`. -/
def seqNextCounters (c : SeqConfig) (r : SeqRegs) : SeqCounters :=
  if r.done then ⟨0, 0, true⟩
  else if seqWindowEnds c r then
    if seqLastSymbol c r then ⟨0, 0, true⟩ else ⟨r.symbolIndex + 1, 0, false⟩
  else ⟨r.symbolIndex, r.sampleIndex + 1, false⟩

/-- The registers go from `r` to `r'` in a tick in which no reset is held: the lookup pipeline of R161 around the
counters. -/
structure SeqTicked (c : SeqConfig) (r r' : SeqRegs) : Prop where
  counters : seqCounters r' = seqNextCounters c r
  symbol : c.packet[r.symbolIndex]? = some r'.symReg
  word : c.table[seqTableAddress c r]? = some r'.outReg
  lastSampleIndex : r'.lastSampleIndex = r.sampleIndex
  doneD1 : r'.doneD1 = r.done
  doneD2 : r'.doneD2 = r.doneD1

section
variable {c : SeqConfig} {r r' r'' : SeqRegs}

/-- The next registers are determined. -/
theorem SeqTicked.unique {q : SeqRegs} (h : SeqTicked c r r') (h' : SeqTicked c r q) : r' = q := by
  obtain ⟨hsymbolIndex, hsampleIndex, hdone⟩ := SeqCounters.mk.inj (h.counters.trans h'.counters.symm)
  have hsymbol : r'.symReg = q.symReg := Option.some.inj (h.symbol.symm.trans h'.symbol)
  have hword : r'.outReg = q.outReg := Option.some.inj (h.word.symm.trans h'.word)
  have hlast : r'.lastSampleIndex = q.lastSampleIndex := h.lastSampleIndex.trans h'.lastSampleIndex.symm
  have hdone1 : r'.doneD1 = q.doneD1 := h.doneD1.trans h'.doneD1.symm
  have hdone2 : r'.doneD2 = q.doneD2 := h.doneD2.trans h'.doneD2.symm
  cases r'
  cases q
  exact (SeqRegs.mk.injEq ..).mpr ⟨hsymbolIndex, hsampleIndex, hlast, hsymbol, hword, hdone, hdone1, hdone2⟩

/-- The gate that `done` closes two ticks later (R167). -/
theorem SeqTicked.output_eq_zero (h : SeqTicked c r r') (h' : SeqTicked c r' r'') (hgate : c.gateLat = .two)
    (hdone : r.done = true) : seqOutput c r'' = 0 := by
  rw [seqOutput_of_two _ hgate, h'.doneD2, h.doneD1, if_pos hdone]

/-- While the gate is open, the word looked up at the counters of two ticks before (R161). -/
theorem SeqTicked.output_looked_up (h : SeqTicked c r r') (h' : SeqTicked c r' r'') (hgate : c.gateLat = .two)
    (hdone : r.done = false) :
    ∃ sym, c.packet[r.symbolIndex]? = some sym ∧
      c.table[baseOf c.base sym * c.wps + r.sampleIndex]? = some (seqOutput c r'') := by
  have hopen : seqOutput c r'' = r''.outReg := by
    rw [seqOutput_of_two _ hgate, h'.doneD2, h.doneD1, if_neg (Bool.eq_false_iff.mp hdone)]
  exact ⟨r'.symReg, h.symbol, by rw [hopen, ← h.lastSampleIndex]; exact h'.word⟩

end

/-! ### The operations of a configured sequencer -/

section
variable {s t : State} {c : SeqConfig}

theorem exec_seqClr (st : BitVec 4) (hc : s.inst.seq = some c) :
    exec (.seqClr st) s = .next (s.writeSeq seqResetRegs) :=
  withConfig_eq_next_iff.mpr ⟨c, hc, rfl⟩

theorem exec_seqIdle (hc : s.inst.seq = some c) : exec .seqIdle s = seqPipeline c s 0 0 true := by
  change execSeqIdle s = _
  rw [execSeqIdle, hc, withConfig_some]

/-- Without a reset the operation of the sequencer is the lookup pipeline around its next counters. -/
theorem exec_seqOperation (hc : s.inst.seq = some c) (hreset : s.inputs.seqReset = false) :
    exec (runningOperation s .seq) s =
      seqPipeline c s (seqNextCounters c s.regs.seq).symbolIndex (seqNextCounters c s.regs.seq).sampleIndex
        (seqNextCounters c s.regs.seq).done := by
  have hop : runningOperation s .seq = if s.regs.seq.done then .seqIdle else .seqRun :=
    if_neg (Bool.eq_false_iff.mp hreset)
  rw [hop, seqNextCounters]
  split
  case isTrue hdone => exact exec_seqIdle hc
  case isFalse hrun =>
    refine (execSeqRun_eq hc).trans ?_
    split
    · split <;> rfl
    · rfl

theorem seqTicked_of_exec (hc : s.inst.seq = some c) (hreset : s.inputs.seqReset = false)
    (h : exec (runningOperation s .seq) s = .next t) : SeqTicked c s.regs.seq t.next.seq := by
  rw [exec_seqOperation hc hreset] at h
  obtain ⟨sym, w, hsym, hw, rfl⟩ := seqPipeline_eq_next_iff.mp h
  exact ⟨rfl, hsym, hw, rfl, rfl, rfl⟩

end

/-! ### The ticks of a run without `rst` -/

section
variable {d n k : Nat} {σ : Nat → State} {c : SeqConfig}

/-- The sequencer stands and takes part in every tick of the run. -/
theorem TickRun.seq_present (hrun : TickRun d n σ) (hc : (σ 0).inst.seq = some c) (hk : k < n) :
    (tickStart (σ k) (σ (k + 1))).inst.seq = some c ∧
      (tickStart (σ k) (σ (k + 1))).present false .seq = true := by
  have hc' : (tickStart (σ k) (σ (k + 1))).inst.seq = some c :=
    (congrArg Instances.seq (TickRun.inst_members hrun hk).1).trans hc
  exact ⟨hc', by simp [State.present, State.stands, State.readsMatch, hc']⟩

/-- A tick with `reset = 1` leaves the reset registers (R166). -/
theorem TickRun.seq_cleared (hrun : TickRun d n σ) (hlow : RstLow d n σ) (hmem : .seq ∈ members (σ 0) d)
    (hc : (σ 0).inst.seq = some c) (hk : k < n) (hreset : (σ (k + 1)).inputs.seqReset = true) :
    (σ (k + 1)).regs.seq = seqResetRegs := by
  obtain ⟨hc', hpresent⟩ := TickRun.seq_present hrun hc hk
  have hop : runningOperation (tickStart (σ k) (σ (k + 1))) .seq = .seqClr (seqCode (σ k).regs.seq.done) :=
    if_pos hreset
  refine TickRun.lands_of_present hrun hlow hmem hk hpresent (·.seq) fun next v => ?_
  rw [hop]
  exact ⟨_, exec_seqClr (s := running (tickStart (σ k) (σ (k + 1))) next v) _ hc', rfl⟩

/-- A tick with `reset = 0` is a `SEQ.RUN` or a `SEQ.IDLE`. -/
theorem TickRun.seq_ticked (hrun : TickRun d n σ) (hlow : RstLow d n σ) (hmem : .seq ∈ members (σ 0) d)
    (hc : (σ 0).inst.seq = some c) (hk : k < n) (hreset : (σ (k + 1)).inputs.seqReset = false) :
    SeqTicked c (σ k).regs.seq (σ (k + 1)).regs.seq := by
  obtain ⟨hc', hpresent⟩ := TickRun.seq_present hrun hc hk
  obtain ⟨⟨levels, rest, hs⟩, h⟩ := hrun k hk
  have hwrites := step_tick_writes hs h
  rw [hlow k hk, (TickRun.inst_members hrun hk.le).2] at hwrites
  obtain ⟨next, v, w, hlast⟩ := hwrites.exec_last (List.mem_filter.mpr ⟨hmem, hpresent⟩)
  exact seqTicked_of_exec (s := running (tickStart (σ k) (σ (k + 1))) next v) hc' hreset hlast

end

/-! ### The counters of a playback (R168) -/

/-- The counters after `t` ticks: the packet's samples one by one, then `done`. -/
def seqCountersAt (c : SeqConfig) (t : Nat) : SeqCounters :=
  if t < c.packet.length * c.wps then ⟨t / c.wps, t % c.wps, false⟩ else ⟨0, 0, true⟩

section
variable {c : SeqConfig} {q m t : Nat}

/-- The counters at sample `m` of symbol `q`. -/
theorem seqCountersAt_symbol (hm : m < c.wps) :
    seqCountersAt c (q * c.wps + m) = if q < c.packet.length then ⟨q, m, false⟩ else ⟨0, 0, true⟩ := by
  have hpos : 0 < c.wps := Nat.zero_lt_of_lt hm
  have hdiv : (q * c.wps + m) / c.wps = q := by
    rw [Nat.mul_comm, Nat.mul_add_div hpos, Nat.div_eq_of_lt hm, Nat.add_zero]
  have hmod : (q * c.wps + m) % c.wps = m := by rw [Nat.mul_comm, Nat.mul_add_mod, Nat.mod_eq_of_lt hm]
  simp only [seqCountersAt, ← Nat.div_lt_iff_lt_mul hpos, hdiv, hmod]

/-- A tick takes the counters on by one sample: within a symbol, to the next one, to `done`, or not at all. -/
theorem seqNextCounters_at (hwps : 1 ≤ c.wps) {r : SeqRegs} (hr : seqCounters r = seqCountersAt c t) :
    seqNextCounters c r = seqCountersAt c (t + 1) := by
  obtain ⟨q, m, hm, rfl⟩ : ∃ q m, m < c.wps ∧ t = q * c.wps + m :=
    ⟨t / c.wps, t % c.wps, Nat.mod_lt t hwps, (Nat.div_add_mod' t c.wps).symm⟩
  rw [seqCountersAt_symbol hm] at hr
  have hnext : seqCountersAt c (q * c.wps + m + 1) =
      if m = c.wps - 1 then (if q + 1 < c.packet.length then ⟨q + 1, 0, false⟩ else ⟨0, 0, true⟩)
      else if q < c.packet.length then ⟨q, m + 1, false⟩ else ⟨0, 0, true⟩ := by
    split
    case isTrue hend =>
      have hsample : q * c.wps + m + 1 = (q + 1) * c.wps + 0 := by rw [Nat.add_mul]; omega
      rw [hsample, seqCountersAt_symbol hwps]
    case isFalse hinner => rw [Nat.add_assoc, seqCountersAt_symbol (by omega)]
  rw [hnext]
  rcases Nat.lt_or_ge q c.packet.length with hplaying | hover
  · rw [if_pos hplaying] at hr
    obtain ⟨hsymbol, hsample, hdone⟩ := SeqCounters.mk.inj hr
    have hlast : q = c.packet.length - 1 ↔ ¬ q + 1 < c.packet.length := by omega
    simp only [seqNextCounters, hdone, Bool.false_eq_true, if_false, seqWindowEnds_iff, seqLastSymbol_iff, hsymbol,
      hsample, hlast, ite_not, if_pos hplaying]
  · rw [if_neg hover.not_gt] at hr
    obtain ⟨-, -, hdone⟩ := SeqCounters.mk.inj hr
    simp only [seqNextCounters, hdone, if_true, if_neg hover.not_gt, if_neg (Nat.le_succ_of_le hover).not_gt, ite_self]

/-- The counters of a playback from the reset registers. -/
theorem seqCounters_of_playback {n : Nat} {r : Nat → SeqRegs}
    (hticked : ∀ k, k < n → SeqTicked c (r k) (r (k + 1))) (hwps : 1 ≤ c.wps) (hpacket : 1 ≤ c.packet.length)
    (hstart : r 0 = seqResetRegs) (t : Nat) (ht : t ≤ n) : seqCounters (r t) = seqCountersAt c t := by
  induction t with
  | zero =>
    have hfirst : 0 < c.packet.length * c.wps := Nat.mul_pos hpacket hwps
    rw [hstart, seqCountersAt, if_pos hfirst, Nat.zero_div, Nat.zero_mod]
    rfl
  | succ t ih => rw [(hticked t ht).counters, seqNextCounters_at hwps (ih (Nat.le_of_succ_le ht))]

end

/-- Settles O39: the counters of tick `t` choose the word of tick `t + 2`, and their `done` its gate. -/
theorem seqPlaybackClosedForm : Obligations.SeqPlaybackClosedForm := by
  intro d n σ c hrun hlow hreset hmem hc hok hgate hstart t ht
  have hticked : ∀ k, k < n → SeqTicked c (σ k).regs.seq (σ (k + 1)).regs.seq := fun k hk =>
    TickRun.seq_ticked hrun hlow hmem hc hk (hreset k hk)
  have hcounters : ∀ k, k ≤ n → seqCounters (σ k).regs.seq = seqCountersAt c k :=
    seqCounters_of_playback (r := fun k => (σ k).regs.seq) hticked hok.wpsPos hok.packetPos hstart
  have hplaying : ∀ k, k ≤ n → k < c.packet.length * c.wps → (σ k).regs.seq.symbolIndex = k / c.wps ∧
      (σ k).regs.seq.sampleIndex = k % c.wps ∧ (σ k).regs.seq.done = false := fun k hk hlt =>
    SeqCounters.mk.inj ((hcounters k hk).trans (if_pos hlt))
  have hended : ∀ k, k ≤ n → c.packet.length * c.wps ≤ k → (σ k).regs.seq.symbolIndex = 0 ∧
      (σ k).regs.seq.sampleIndex = 0 ∧ (σ k).regs.seq.done = true := fun k hk hle =>
    SeqCounters.mk.inj ((hcounters k hk).trans (if_neg hle.not_gt))
  refine ⟨hplaying t ht, hended t ht, ?first, ?second, ?lookedUp, ?gated⟩
  case first =>
    rintro rfl
    rw [hstart, seqOutput_of_two _ hgate, if_neg Bool.false_ne_true]
  case second =>
    rintro rfl
    have hfirst := hticked 0 ht
    rw [hstart] at hfirst
    rw [seqOutput_of_two _ hgate, hfirst.doneD2, if_neg Bool.false_ne_true]
    exact hfirst.word
  case lookedUp =>
    intro htwo hlt
    obtain ⟨k, rfl⟩ := Nat.exists_eq_add_of_le' htwo
    obtain ⟨hsymbol, hsample, hdone⟩ := hplaying k (by omega) (by omega)
    rw [Nat.add_sub_cancel, ← hsymbol, ← hsample]
    exact (hticked k (by omega)).output_looked_up (hticked (k + 1) (by omega)) hgate hdone
  case gated =>
    intro hle
    obtain ⟨k, rfl⟩ := Nat.exists_eq_add_of_le' (Nat.le_of_add_left_le hle)
    obtain ⟨-, -, hdone⟩ := hended k (by omega) (by omega)
    exact (hticked k (by omega)).output_eq_zero (hticked (k + 1) (by omega)) hgate hdone

/-! ### The replay after a tick with `reset = 1` (R169) -/

/-- Settles O40: the reset tick leaves the registers the other run starts from, and each tick determines the next
registers. -/
theorem seqReplayIsIdentical : Obligations.SeqReplayIsIdentical := by
  intro d e n m j σ τ c hσ hτ hσlow hτlow hσmem hτmem hσc hτc hτstart hτreset hj hclear hσreset t htn htm
  have hregs : (σ (j + 1 + t)).regs.seq = (τ t).regs.seq := by
    induction t with
    | zero => exact (TickRun.seq_cleared hσ hσlow hσmem hσc hj hclear).trans hτstart.symm
    | succ t ih =>
      have hsecond : SeqTicked c (σ (j + 1 + t)).regs.seq (σ (j + 1 + t + 1)).regs.seq :=
        TickRun.seq_ticked hσ hσlow hσmem hσc htn (hσreset _ (by omega) htn)
      rw [ih (by omega) (by omega)] at hsecond
      exact hsecond.unique (TickRun.seq_ticked hτ hτlow hτmem hτc htm (hτreset t htm))
  have hσc' : (σ (j + 1 + t)).inst.seq = some c :=
    (congrArg Instances.seq (TickRun.inst_members hσ htn).1).trans hσc
  have hτc' : (τ t).inst.seq = some c := (congrArg Instances.seq (TickRun.inst_members hτ htm).1).trans hτc
  exact ⟨hregs, by rw [seqOut_of_config hσc', seqOut_of_config hτc', hregs]⟩

end Sys2Proof.Proofs
end

section
/-! The operations of the link-training FSMs and their primitives where a TXI or RXI is configured: SYNC2, DEGL, WTMR
and WDOG for the TXI or RXI in focus (R181 to R185), and the transitions of R190 to R194 and R199 to R211. -/

namespace Sys2Proof.Proofs

open Sys2Proof.Machine Sys2Proof.Safety

/-! ### The tables of R187 and R198, read by output -/

theorem txiControls_eq (v : TxiState) :
    txiControls v =
      { pllreset := decide (v = .powerDown)
        gttxreset := decide (v = .powerDown ∨ v = .waitPllReset ∨ v = .waitInitDelay)
        gttxpd := decide (v = .powerDown)
        txuserrdy := decide (v = .waitGtpReset ∨ v = .ready) } := by
  cases v <;> rfl

theorem rxiControls_eq (c : RxiConfig) (r : RxiRegs) :
    rxiControls c r =
      { gtrxreset := decide (r.state = .powerDown ∨ r.state = .drpReadIssue ∨ r.state = .drpReadWait ∨
          r.state = .drpModIssue ∨ r.state = .drpModWait)
        gtrxpd := decide (r.state = .powerDown)
        rxuserrdy := decide (r.state = .waitGtpReset ∨ r.state = .align ∨ r.state = .waitAlignDone ∨
          r.state = .ready)
        rxdlysreset := decide (r.state = .align)
        drpen := decide (r.state = .drpReadIssue ∨ r.state = .drpModIssue ∨ r.state = .drpRestoreIssue)
        drpwe := decide (r.state = .drpModIssue ∨ r.state = .drpRestoreIssue)
        drpdi := if r.state = .drpModIssue then r.drpvalue &&& c.drpModMask else r.drpvalue } := by
  cases h : r.state <;> simp [rxiControls, rxiDrpData, h]

theorem txiWait_iff {r : TxiRegs} :
    txiWait r = true ↔ r.state = .powerDown ∨ (r.state = .waitInitDelay ∧ r.sync.plllock.s2 = true) := by
  cases h : r.state <;> simp [txiWait, h]

theorem rxiWait_iff {r : RxiRegs} :
    rxiWait r = true ↔ r.state = .powerDown ∧ r.sync.plllock.s2 = true := by
  cases h : r.state <;> simp [rxiWait, h]

/-! ### The expiry of the watchdog (R185) -/

theorem watchdogExpires_iff {watchdog : Option Nat} {ready : Level} {wd : Nat} :
    watchdogExpires watchdog ready wd = true ↔ ready = false ∧ ∃ n, watchdog = some n ∧ wd = n - 1 := by
  cases watchdog <;> simp [watchdogExpires]

theorem txiExpires_iff {c : TxiConfig} {r : TxiRegs} : txiExpires c r = true ↔ TxiExpires c r := by
  simp [txiExpires, TxiExpires, watchdogExpires_iff, txiDone]

theorem rxiExpires_iff {c : RxiConfig} {r : RxiRegs} : rxiExpires c r = true ↔ RxiExpires c r := by
  simp [rxiExpires, RxiExpires, watchdogExpires_iff, rxiDone]

/-! ### The wait timer (R183) -/

/-- What `WTMR.TICK` writes: the reload where the watchdog expires, else the down-counter. -/
def linkNextCount (expires wait : Level) (ticks count : Nat) : Nat :=
  if expires then ticks else timerNext wait ticks count

section
variable {expires wait : Level} {ticks count : Nat}

theorem linkNextCount_of_reload (h : expires = true ∨ wait = false) :
    linkNextCount expires wait ticks count = ticks := by
  rcases h with rfl | rfl <;> simp [linkNextCount, timerNext]

theorem linkNextCount_of_wait (hexpires : expires = false) (hwait : wait = true) :
    linkNextCount expires wait ticks count = count - 1 := by
  simp [linkNextCount, timerNext, hexpires, hwait]

end

/-! ### The operations of a configured TXI -/

section
variable {s : State} {c : TxiConfig} (hc : s.inst.txi = some c)
include hc

theorem exec_sync2Tick_txi (hfocus : s.focus = .tx) :
    exec .sync2Tick s = .next (s.writeTxiSync (txiSyncShift s.inputs s.regs.txi.sync)) :=
  withLink_eq_next_iff.mpr (.inl ⟨hfocus, c, hc, rfl⟩)

theorem exec_deglTick_txi (hfocus : s.focus = .tx) :
    exec .deglTick s = .next (s.writeTxiDegl (txiControls s.regs.txi.state)) :=
  withLink_eq_next_iff.mpr (.inl ⟨hfocus, c, hc, rfl⟩)

theorem exec_wtmrTick_txi (hfocus : s.focus = .tx) :
    exec .wtmrTick s = .next (s.writeTxiCount
      (linkNextCount (txiExpires c s.regs.txi) (txiWait s.regs.txi) c.timerTicks s.regs.txi.count)) :=
  withLink_eq_next_iff.mpr (.inl ⟨hfocus, c, hc, rfl⟩)

theorem exec_wdogTick_txi (hfocus : s.focus = .tx) : exec .wdogTick s = .next (txiWatchdog s c) :=
  withLink_eq_next_iff.mpr (.inl ⟨hfocus, c, hc, rfl⟩)

/-- The FSM's transition where a TXI is configured. -/
theorem exec_txiOperation_of_config (v : TxiState) :
    exec (txiOperation v) s = txiGoto s c (txiTarget s.inputs s.regs.txi v) := by
  rw [exec_txiOperation, hc, withConfig_some]

/-- An expiring watchdog has priority over the transition (R185, R247). -/
theorem exec_txiOperation_of_expires (hexpires : TxiExpires c s.regs.txi) (v : TxiState) :
    exec (txiOperation v) s = .next (s.writeTxiState .powerDown) := by
  rw [exec_txiOperation_of_config hc, txiGoto, if_pos (txiExpires_iff.mpr hexpires)]

theorem exec_txiOperation_of_not_expires (hexpires : ¬ TxiExpires c s.regs.txi) (v : TxiState) :
    exec (txiOperation v) s = .next (s.writeTxiState (txiTarget s.inputs s.regs.txi v)) := by
  rw [exec_txiOperation_of_config hc, txiGoto, if_neg (mt txiExpires_iff.mp hexpires)]

end

/-! ### The operations of a configured RXI -/

section
variable {s : State} {c : RxiConfig} (hc : s.inst.rxi = some c)
include hc

theorem exec_sync2Tick_rxi (hfocus : s.focus = .rx) :
    exec .sync2Tick s = .next (s.writeRxiSync (rxiSyncShift s.inputs s.regs.rxi.sync)) :=
  withLink_eq_next_iff.mpr (.inr ⟨hfocus, c, hc, rfl⟩)

theorem exec_wtmrTick_rxi (hfocus : s.focus = .rx) :
    exec .wtmrTick s = .next (s.writeRxiCount
      (linkNextCount (rxiExpires c s.regs.rxi) (rxiWait s.regs.rxi) c.timerTicks s.regs.rxi.count)) :=
  withLink_eq_next_iff.mpr (.inr ⟨hfocus, c, hc, rfl⟩)

theorem exec_wdogTick_rxi (hfocus : s.focus = .rx) : exec .wdogTick s = .next (rxiWatchdog s c) :=
  withLink_eq_next_iff.mpr (.inr ⟨hfocus, c, hc, rfl⟩)

/-- An expiring watchdog has priority over the transition, not over the capture of `drpdo` (R185, R202). -/
theorem exec_rxiOperation_of_expires (hexpires : RxiExpires c s.regs.rxi) (v : RxiState) :
    exec (rxiOperation v) s =
      .next (((s.writeDrpvalue (rxiCapture s.inputs v s.next.rxi.drpvalue)).writeRxiState .powerDown).writePmadone
        s.regs.rxi.sync.rxpmaresetdone.s2) := by
  rw [exec_rxiOperation_of_config hc, rxiGoto, writeDrpvalue_regs, if_pos (rxiExpires_iff.mpr hexpires)]

theorem exec_rxiOperation_of_not_expires (hexpires : ¬ RxiExpires c s.regs.rxi) (v : RxiState) :
    exec (rxiOperation v) s =
      .next (((s.writeDrpvalue (rxiCapture s.inputs v s.next.rxi.drpvalue)).writeRxiState
        (rxiTarget c s.inputs s.regs.rxi v)).writePmadone s.regs.rxi.sync.rxpmaresetdone.s2) := by
  rw [exec_rxiOperation_of_config hc, rxiGoto, writeDrpvalue_regs, if_neg (mt rxiExpires_iff.mp hexpires)]

end

/-- Settles O41: `SYNC2` and `DEGL` of the TXI or RXI in focus are one write each. -/
theorem synchronizerAndDeglitchResults : Obligations.SynchronizerAndDeglitchResults := by
  refine fun s => ⟨fun c hfocus hc => ⟨exec_sync2Tick_txi hc hfocus, ?_⟩,
    fun c hfocus hc => ⟨exec_sync2Tick_rxi hc hfocus, ?_⟩⟩
  · exact (exec_deglTick_txi hc hfocus).trans (by rw [txiControls_eq]; rfl)
  · exact (exec_deglTick_rxi hc hfocus).trans (by rw [rxiControls_eq]; rfl)

/-- Settles O42: the timer reloads at expiry and without `wait`, and counts down otherwise. -/
theorem waitTimerResult : Obligations.WaitTimerResult := by
  have hdown : ∀ n : Nat, n - 1 = if n ≠ 0 then n - 1 else 0 := fun n => by split <;> omega
  refine fun s => ⟨?tx, ?rx⟩
  case tx =>
    intro c hfocus hc r waits result
    have hrun : ∀ v, linkNextCount (txiExpires c r) (txiWait r) c.timerTicks r.count = v →
        exec .wtmrTick s = result v := fun v hv => hv ▸ exec_wtmrTick_txi hc hfocus
    refine ⟨fun h => hrun _ (linkNextCount_of_reload ?_),
      fun hexpires hwaits => hrun _ ((linkNextCount_of_wait ?_ (txiWait_iff.mpr hwaits)).trans (hdown _))⟩
    · exact h.imp txiExpires_iff.mpr fun h => Bool.eq_false_iff.mpr (mt txiWait_iff.mp h)
    · exact Bool.eq_false_iff.mpr (mt txiExpires_iff.mp hexpires)
  case rx =>
    intro c hfocus hc r waits result
    have hrun : ∀ v, linkNextCount (rxiExpires c r) (rxiWait r) c.timerTicks r.count = v →
        exec .wtmrTick s = result v := fun v hv => hv ▸ exec_wtmrTick_rxi hc hfocus
    refine ⟨fun h => hrun _ (linkNextCount_of_reload ?_),
      fun hexpires hwaits => hrun _ ((linkNextCount_of_wait ?_ (rxiWait_iff.mpr hwaits)).trans (hdown _))⟩
    · exact h.imp rxiExpires_iff.mpr fun h => Bool.eq_false_iff.mpr (mt rxiWait_iff.mp h)
    · exact Bool.eq_false_iff.mpr (mt rxiExpires_iff.mp hexpires)

/-- Settles O43, by the four cases of each watchdog. -/
theorem watchdogResult : Obligations.WatchdogResult := by
  refine fun s => ⟨fun c hfocus hc => ?tx, fun c hfocus hc => ?rx⟩
  case tx =>
    have hrun := exec_wdogTick_txi hc hfocus
    rcases txiWatchdog_cases s c with ⟨hnone, hw⟩ | ⟨n, hn, hcase⟩
    · exact ⟨fun _ => hrun.trans (congrArg _ hw), fun m hm => nomatch hnone.symm.trans hm⟩
    · refine ⟨fun hnone => (nomatch hnone.symm.trans hn), fun m hm => ?_⟩
      obtain rfl : n = m := Option.some.inj (hn.symm.trans hm)
      rcases hcase with ⟨hready, hw⟩ | ⟨hready, hwd, hw⟩ | ⟨hready, hwd, hw⟩
      · exact ⟨fun _ => hrun.trans (congrArg _ hw), fun h => absurd hready h, fun h => absurd hready h⟩
      · exact ⟨fun h => absurd h hready, fun _ _ => hrun.trans (congrArg _ hw), fun _ h => absurd hwd h⟩
      · exact ⟨fun h => absurd h hready, fun _ h => absurd h hwd, fun _ _ => hrun.trans (congrArg _ hw)⟩
  case rx =>
    have hrun := exec_wdogTick_rxi hc hfocus
    rcases rxiWatchdog_cases s c with ⟨hnone, hw⟩ | ⟨n, hn, hcase⟩
    · exact ⟨fun _ => hrun.trans (congrArg _ hw), fun m hm => nomatch hnone.symm.trans hm⟩
    · refine ⟨fun hnone => (nomatch hnone.symm.trans hn), fun m hm => ?_⟩
      obtain rfl : n = m := Option.some.inj (hn.symm.trans hm)
      rcases hcase with ⟨hready, hw⟩ | ⟨hready, hwd, hw⟩ | ⟨hready, hwd, hw⟩
      · exact ⟨fun _ => hrun.trans (congrArg _ hw), fun h => absurd hready h, fun h => absurd hready h⟩
      · exact ⟨fun h => absurd h hready, fun _ _ => hrun.trans (congrArg _ hw), fun _ h => absurd hwd h⟩
      · exact ⟨fun h => absurd h hready, fun _ h => absurd h hwd, fun _ _ => hrun.trans (congrArg _ hw)⟩

/-! ### The transitions with their conditions written out -/

theorem txiTarget_eq (i : Inputs) (r : TxiRegs) (v : TxiState) :
    txiTarget i r v =
      match v with
      | .powerDown => if r.count = 0 then .waitPllReset else .powerDown
      | .waitPllReset => if r.sync.plllock.s2 then .waitInitDelay else .waitPllReset
      | .waitInitDelay => if r.count = 0 then .waitGtpReset else .waitInitDelay
      | .waitGtpReset => if r.sync.txresetdone.s2 then .ready else .waitGtpReset
      | .ready => if i.txRestart then .powerDown else .ready := by
  cases v <;> simp [txiTarget, timerDone]

theorem rxiTarget_eq (c : RxiConfig) (i : Inputs) (r : RxiRegs) (v : RxiState) :
    rxiTarget c i r v =
      match v with
      | .powerDown => if r.count = 0 then .drpReadIssue else .powerDown
      | .drpReadIssue => .drpReadWait
      | .drpReadWait => if i.drprdy then .drpModIssue else .drpReadWait
      | .drpModIssue => .drpModWait
      | .drpModWait => if i.drprdy then .waitPmarstFall else .drpModWait
      | .waitPmarstFall =>
        if r.pmadoneR = true ∧ r.sync.rxpmaresetdone.s2 = false then .drpRestoreIssue else .waitPmarstFall
      | .drpRestoreIssue => .drpRestoreWait
      | .drpRestoreWait => if i.drprdy then .waitGtpReset else .drpRestoreWait
      | .waitGtpReset =>
        if r.sync.rxresetdone.s2 then (if c.bufferEnable then .ready else .align) else .waitGtpReset
      | .align => if r.sync.rxdlysresetdone.s2 then .waitAlignDone else .align
      | .waitAlignDone => if r.sync.rxsyncdone.s2 then .ready else .waitAlignDone
      | .ready => if i.rxRestart then .powerDown else .ready := by
  cases v <;> simp [rxiTarget, timerDone, pmarstFalls]

/-- `drpvalue` keeps what was written to it, except where `drpdo` is taken (R202). -/
theorem rxiCapture_of_keeps {i : Inputs} {v : RxiState} (h : v = .drpReadWait → i.drprdy = false)
    (drpvalue : DrpData) : rxiCapture i v drpvalue = drpvalue :=
  if_neg fun ⟨hv, hrdy⟩ => Bool.false_ne_true ((h hv).symm.trans hrdy)

theorem rxiCapture_of_taken {i : Inputs} (hrdy : i.drprdy = true) (drpvalue : DrpData) :
    rxiCapture i .drpReadWait drpvalue = i.drpdo :=
  if_pos ⟨rfl, hrdy⟩

/-- Settles O44: each operation is the transition of its state, or the restart. -/
theorem txiOperationResults : Obligations.TxiOperationResults := by
  intro s c hc r goes
  refine ⟨fun hexpires => ?_, fun hexpires => ?_⟩
  · have hrun : ∀ v, exec (txiOperation v) s = goes .powerDown := exec_txiOperation_of_expires hc hexpires
    exact ⟨hrun .powerDown, hrun .waitPllReset, hrun .waitInitDelay, hrun .waitGtpReset, hrun .ready⟩
  · have hrun : ∀ v, exec (txiOperation v) s = goes (txiTarget s.inputs r v) :=
      exec_txiOperation_of_not_expires hc hexpires
    simp only [txiTarget_eq] at hrun
    exact ⟨hrun .powerDown, hrun .waitPllReset, hrun .waitInitDelay, hrun .waitGtpReset, hrun .ready⟩

/-- Settles O45: each operation is the transition of its state, or the restart, beside the capture of `drpdo`. -/
theorem rxiOperationResults : Obligations.RxiOperationResults := by
  intro s c hc r expired goes
  have hrun : ∀ v, (v = .drpReadWait → s.inputs.drprdy = false) →
      goes (rxiOperation v) (rxiTarget c s.inputs r v) := fun v hv =>
    ⟨fun hexpires => (exec_rxiOperation_of_expires hc hexpires v).trans (by rw [rxiCapture_of_keeps hv]; rfl),
      fun hexpires => (exec_rxiOperation_of_not_expires hc hexpires v).trans (by rw [rxiCapture_of_keeps hv]; rfl)⟩
  simp only [rxiTarget_eq] at hrun
  refine ⟨hrun .powerDown nofun, hrun .drpReadIssue nofun, fun hrdy => ?_, fun hrdy hexpires => ?_,
    fun hrdy hexpires => ?_, hrun .drpModIssue nofun, hrun .drpModWait nofun, hrun .waitPmarstFall nofun,
    hrun .drpRestoreIssue nofun, hrun .drpRestoreWait nofun, hrun .waitGtpReset nofun, hrun .align nofun,
    hrun .waitAlignDone nofun, hrun .ready nofun⟩
  · have hstay := hrun .drpReadWait fun _ => hrdy
    rwa [hrdy] at hstay
  · exact (exec_rxiOperation_of_expires hc hexpires .drpReadWait).trans (by rw [rxiCapture_of_taken hrdy]; rfl)
  · exact (exec_rxiOperation_of_not_expires hc hexpires .drpReadWait).trans
      (by rw [rxiCapture_of_taken hrdy, rxiTarget_eq, hrdy]; rfl)

end Sys2Proof.Proofs
end

section
/-! The outcomes of the configuration of a TXI or RXI (R184, R188, R197), the one write of `drpvalue` (R202), and what a
tick lands at each place of a configured TXI or RXI (R181, R183, R195, R199, R212). -/

namespace Sys2Proof.Proofs

open Sys2Proof.Machine Sys2Proof.Safety

/-! ### TXI.CONFIG and RXI.CONFIG (R184, R188, R197) -/

/-- `T` is the only natural number of microseconds' ticks that `sys_clk_freq` rounds up to. -/
theorem timerConstant_eq {f : ℤ} {ticks : Nat} (hle : f ≤ ticks * 10 ^ 6) (hlt : ((ticks : ℤ) - 1) * 10 ^ 6 < f) :
    timerConstant f = ticks := by
  unfold timerConstant ceilDiv
  omega

theorem linkBadClock_iff {f : ℤ} {watchdog : Option ℤ} :
    linkBadClock f watchdog = true ↔ f < 1 ∨ ∃ n, watchdog = some n ∧ n < 1 := by
  cases watchdog <;> simp [linkBadClock]

section
variable {s : State} {cause : ConfigCause}

theorem exec_txiConfig_of_ok {c : TxiConfig} (h : buildTxi s.params.txi = .ok c) :
    exec .txiConfig s = .next (s.installTxi c) :=
  configureWith_eq_next_iff.mpr (.inl ⟨c, h, rfl⟩)

theorem exec_txiConfig_of_error (h : buildTxi s.params.txi = .error cause) :
    exec .txiConfig s = .next (s.raiseConfigurationError (.txi s.params.txi) cause) :=
  configureWith_eq_next_iff.mpr (.inr ⟨cause, h, rfl⟩)

theorem exec_rxiConfig_of_ok {c : RxiConfig} (h : buildRxi s.params.rxi = .ok c) :
    exec .rxiConfig s = .next (s.installRxi c) :=
  configureWith_eq_next_iff.mpr (.inl ⟨c, h, rfl⟩)

theorem exec_rxiConfig_of_error (h : buildRxi s.params.rxi = .error cause) :
    exec .rxiConfig s = .next (s.raiseConfigurationError (.rxi s.params.rxi) cause) :=
  configureWith_eq_next_iff.mpr (.inr ⟨cause, h, rfl⟩)

end

/-- Settles O46: the one check of the operands, and `T` as the ceiling. -/
theorem linkConfigOutcome : Obligations.LinkConfigOutcome := by
  refine fun s => ⟨⟨fun hbad => ?_, fun ticks hfreq hwatchdog hle hlt => ?_⟩,
    fun hbad => ?_, fun ticks hfreq hwatchdog hle hlt => ?_⟩
  · exact exec_txiConfig_of_error (if_pos (linkBadClock_iff.mpr hbad))
  · exact exec_txiConfig_of_ok
      (buildTxi_eq_ok_iff.mpr ⟨hfreq, hwatchdog, by rw [timerConstant_eq hle hlt]⟩)
  · exact exec_rxiConfig_of_error (if_pos (linkBadClock_iff.mpr hbad))
  · exact exec_rxiConfig_of_ok
      (buildRxi_eq_ok_iff.mpr ⟨hfreq, hwatchdog, by rw [timerConstant_eq hle hlt]⟩)

/-! ### The one write of `drpvalue` (R202) -/

/-- Only the place of the RX FSM writes `drpvalue`. -/
theorem PlaceWrite.drpvalue {i : Instances} {r : Regs} {p : Slot} {f : Regs → Regs} (hf : PlaceWrite i r p f)
    (hp : p ≠ .link .rx .fsm) (n : Regs) : (f n).rxi.drpvalue = n.rxi.drpvalue := by
  cases hf with
  | rxi c hc a f hf =>
    cases hf with
    | fsm => exact absurd rfl hp
    | _ => rfl
  | _ => rfl

/-- An operation performed at another place than that of the RX FSM leaves `drpvalue` alone. -/
theorem exec_drpvalue_of_place {i : Instr} {s t : State} (h : exec i s = .next t) (hi : isConfiguration i = false)
    (hp : operationPlace s.focus i ≠ .link .rx .fsm) : t.next.rxi.drpvalue = s.next.rxi.drpvalue := by
  obtain ⟨f, hf, hrun⟩ := exec_writes hi h
  obtain rfl : { s with next := f s.next } = t :=
    Host.Outcome.next.inj ((hrun s (SameReads.refl _ _)).symm.trans h)
  exact hf.drpvalue hp s.next

theorem exec_rxiOperation_drpvalue {v : RxiState} {s t : State} (h : exec (rxiOperation v) s = .next t) :
    t.next.rxi.drpvalue = rxiCapture s.inputs v s.next.rxi.drpvalue := by
  rw [exec_rxiOperation] at h
  obtain ⟨c, -, h⟩ := withConfig_eq_next_iff.mp h
  obtain rfl := rxiGoto_eq_next_iff.mp h
  rfl

/-- A configuration operation of another unit leaves `drpvalue` alone. -/
theorem exec_configOperation_drpvalue {u : ConfigUnit} {s t : State} (h : exec (configOperation u) s = .next t)
    (hu : u ≠ .rxi) : t.next.rxi.drpvalue = s.next.rxi.drpvalue := by
  cases u
  case rxi => exact absurd rfl hu
  all_goals rcases configureWith_eq_next_iff.mp h with ⟨c, -, rfl⟩ | ⟨cause, -, rfl⟩ <;> rfl

/-- The operations performed at the place of the RX FSM. -/
theorem operation_of_rxiPlace {focus : LinkVariant} {i : Instr} (hi : isConfiguration i = false)
    (hp : operationPlace focus i = .link .rx .fsm) : (∃ x, i = .rst .rxi x) ∨ ∃ v, i = rxiOperation v := by
  cases i
  case rst u x =>
    cases u
    case rxi => exact .inl ⟨x, rfl⟩
    all_goals cases hp
  case rxiPowerDown => exact .inr ⟨.powerDown, rfl⟩
  case rxiDrpReadIssue => exact .inr ⟨.drpReadIssue, rfl⟩
  case rxiDrpReadWait => exact .inr ⟨.drpReadWait, rfl⟩
  case rxiDrpModIssue => exact .inr ⟨.drpModIssue, rfl⟩
  case rxiDrpModWait => exact .inr ⟨.drpModWait, rfl⟩
  case rxiWaitPmarstFall => exact .inr ⟨.waitPmarstFall, rfl⟩
  case rxiDrpRestoreIssue => exact .inr ⟨.drpRestoreIssue, rfl⟩
  case rxiDrpRestoreWait => exact .inr ⟨.drpRestoreWait, rfl⟩
  case rxiWaitGtpReset => exact .inr ⟨.waitGtpReset, rfl⟩
  case rxiAlign => exact .inr ⟨.align, rfl⟩
  case rxiWaitAlignDone => exact .inr ⟨.waitAlignDone, rfl⟩
  case rxiReady => exact .inr ⟨.ready, rfl⟩
  case ncoBuild | matchConfig | acqConfig | cordicConfig | seqConfig | txiConfig | rxiConfig => cases hi
  all_goals cases hp

theorem exists_configOperation {i : Instr} (hi : isConfiguration i = true) : ∃ u, i = configOperation u := by
  cases i
  case ncoBuild => exact ⟨.nco, rfl⟩
  case matchConfig => exact ⟨.matcher, rfl⟩
  case acqConfig => exact ⟨.acq, rfl⟩
  case cordicConfig => exact ⟨.cordic, rfl⟩
  case seqConfig => exact ⟨.seq, rfl⟩
  case txiConfig => exact ⟨.txi, rfl⟩
  case rxiConfig => exact ⟨.rxi, rfl⟩
  all_goals cases hi

/-- Settles O53: a configuration operation writes its own unit, a tick operation its own place, and of the operations of
the RX FSM only DRP_READ_WAIT captures. -/
theorem drpvalueWrittenOnlyByReadWait : Obligations.DrpvalueWrittenOnlyByReadWait := by
  intro i s t h hwait hconfig hrst
  cases hi : isConfiguration i with
  | true =>
    obtain ⟨u, rfl⟩ := exists_configOperation hi
    exact exec_configOperation_drpvalue h fun hu => hconfig (congrArg configOperation hu)
  | false =>
    by_cases hp : operationPlace s.focus i = .link .rx .fsm
    case neg => exact exec_drpvalue_of_place h hi hp
    case pos =>
      rcases operation_of_rxiPlace hi hp with ⟨x, rfl⟩ | ⟨v, rfl⟩
      · exact absurd rfl (hrst x)
      · rw [exec_rxiOperation_drpvalue h]
        exact rxiCapture_of_keeps (fun hv => absurd (congrArg rxiOperation hv) hwait) _

/-! ### What a tick without reset leaves at a place of a TXI or RXI -/

/-- What the operation of such a place writes, the place standing and being in focus, is what lands. -/
theorem step_tick_link {α : Type} {s t : State} {d : Nat} {levels : List PortLevel} {rest : List Stim}
    {v : LinkVariant} {a : LinkPart} (hs : s.script = .tick d levels :: rest) (h : step s = .next t)
    (hrst : rstLevel t d = false) (hmem : .link v a ∈ members s d) (hstands : s.stands (.link v a) = true)
    (get : Regs → α) {r : α}
    (hexec : ∀ u : State, u.inst = s.inst → u.regs = s.regs → u.inputs = t.inputs → u.focus = v →
      ∃ u', exec (runningOperation u (.link v a)) u = .next u' ∧ get u'.next = r) : get t.regs = r := by
  have hw := step_tick_writes hs h
  rw [hrst] at hw
  have hinst : (tickStart s t).inst = s.inst := (step_tick_inst hs h : t.inst = s.inst)
  have hstands' : (tickStart s t).stands (.link v a) = true := by
    rw [← hstands]
    cases v <;> cases a <;> simp only [State.stands, hinst]
  have hop : ∀ next w, slotOperation (tickStart s t) false (.link v a) =
      runningOperation ((running (tickStart s t) next w).focusSlot (.link v a)) (.link v a) := by
    cases v <;> cases a <;> exact fun _ _ => rfl
  refine hw.lands_of_present hmem (present_link hstands') get fun next w => ?_
  rw [hop next w]
  exact hexec _ hinst rfl rfl rfl

section
variable {s t : State} {d : Nat} {levels : List PortLevel} {rest : List Stim} {c : TxiConfig}
  (hs : s.script = .tick d levels :: rest) (h : step s = .next t) (hrst : rstLevel t d = false)
  (hc : s.inst.txi = some c)
include hs h hrst hc

theorem step_tick_txiState (hmem : .link .tx .fsm ∈ members s d) :
    t.regs.txi.state =
      if txiExpires c s.regs.txi then .powerDown else txiTarget t.inputs s.regs.txi s.regs.txi.state :=
  step_tick_link hs h hrst hmem (Option.isSome_of_eq_some hc) (·.txi.state) fun u hinst hregs hinputs _ => by
    rw [← hregs, ← hinputs]
    exact ⟨_, exec_txiOperation_of_config (hinst ▸ hc) _, rfl⟩

theorem step_tick_txiSync (hmem : .link .tx .sync2 ∈ members s d) :
    t.regs.txi.sync = txiSyncShift t.inputs s.regs.txi.sync :=
  step_tick_link hs h hrst hmem (Option.isSome_of_eq_some hc) (·.txi.sync) fun u hinst hregs hinputs hfocus => by
    rw [← hregs, ← hinputs]
    exact ⟨_, exec_sync2Tick_txi (hinst ▸ hc) hfocus, rfl⟩

theorem step_tick_txiCount (hmem : .link .tx .wtmr ∈ members s d) :
    t.regs.txi.count =
      linkNextCount (txiExpires c s.regs.txi) (txiWait s.regs.txi) c.timerTicks s.regs.txi.count :=
  step_tick_link hs h hrst hmem (Option.isSome_of_eq_some hc) (·.txi.count) fun u hinst hregs _ hfocus => by
    rw [← hregs]
    exact ⟨_, exec_wtmrTick_txi (hinst ▸ hc) hfocus, rfl⟩

end

section
variable {s t : State} {d : Nat} {levels : List PortLevel} {rest : List Stim} {c : RxiConfig}
  (hs : s.script = .tick d levels :: rest) (h : step s = .next t) (hrst : rstLevel t d = false)
  (hc : s.inst.rxi = some c)
include hs h hrst hc

theorem step_tick_rxiState (hmem : .link .rx .fsm ∈ members s d) :
    t.regs.rxi.state = rxiNextState c t.inputs s.regs.rxi :=
  step_tick_link hs h hrst hmem (Option.isSome_of_eq_some hc) (·.rxi.state) fun u hinst hregs hinputs _ => by
    rw [← hregs, ← hinputs]
    exact ⟨_, exec_rxiOperation_of_config (hinst ▸ hc), rfl⟩

theorem step_tick_rxiPmadone (hmem : .link .rx .fsm ∈ members s d) :
    t.regs.rxi.pmadoneR = s.regs.rxi.sync.rxpmaresetdone.s2 :=
  step_tick_link hs h hrst hmem (Option.isSome_of_eq_some hc) (·.rxi.pmadoneR) fun u hinst hregs _ _ => by
    rw [← hregs]
    exact ⟨_, exec_rxiOperation_of_config (hinst ▸ hc), rfl⟩

theorem step_tick_rxiSync (hmem : .link .rx .sync2 ∈ members s d) :
    t.regs.rxi.sync = rxiSyncShift t.inputs s.regs.rxi.sync :=
  step_tick_link hs h hrst hmem (Option.isSome_of_eq_some hc) (·.rxi.sync) fun u hinst hregs hinputs hfocus => by
    rw [← hregs, ← hinputs]
    exact ⟨_, exec_sync2Tick_rxi (hinst ▸ hc) hfocus, rfl⟩

theorem step_tick_rxiCount (hmem : .link .rx .wtmr ∈ members s d) :
    t.regs.rxi.count =
      linkNextCount (rxiExpires c s.regs.rxi) (rxiWait s.regs.rxi) c.timerTicks s.regs.rxi.count :=
  step_tick_link hs h hrst hmem (Option.isSome_of_eq_some hc) (·.rxi.count) fun u hinst hregs _ hfocus => by
    rw [← hregs]
    exact ⟨_, exec_wtmrTick_rxi (hinst ▸ hc) hfocus, rfl⟩

end

/-- Settles O49: the operation of the FSM's state lands, with R185's priority. -/
theorem txiEdgesComplete : Obligations.TxiEdgesComplete := by
  intro s t d levels rest c hs h hrst hmem hc
  have hstate := step_tick_txiState hs h hrst hc hmem
  exact ⟨fun hexpires => hstate.trans (if_pos (txiExpires_iff.mpr hexpires)),
    fun hexpires => (hstate.trans (if_neg (mt txiExpires_iff.mp hexpires))).trans (txiTarget_eq _ _ _)⟩

/-- Settles O50: the operation of the FSM's state lands, with R185's priority. -/
theorem rxiEdgesComplete : Obligations.RxiEdgesComplete := by
  intro s t d levels rest c hs h hrst hmem hc
  have hstate := step_tick_rxiState hs h hrst hc hmem
  exact ⟨fun hexpires => hstate.trans (if_pos (rxiExpires_iff.mpr hexpires)),
    fun hexpires => (hstate.trans (if_neg (mt rxiExpires_iff.mp hexpires))).trans (rxiTarget_eq _ _ _ _)⟩

/-- Settles O55: every operation of the FSM writes `pmadone_r`. -/
theorem pmadoneCopiesSynchronizedInput : Obligations.PmadoneCopiesSynchronizedInput :=
  fun _ _ _ _ _ _ hs h hrst hmem hc => step_tick_rxiPmadone hs h hrst hc hmem

end Sys2Proof.Proofs
end

section
/-! Runs of a configured TXI or RXI: the delay of the synchronizers (R181), the wait timer as a count of the ticks of
`wait` (R183), and the dwell laws of R213. -/

namespace Sys2Proof.Proofs

open Sys2Proof.Machine Sys2Proof.Safety

/-! ### Two ticks through a synchronizer (R181) -/

/-- A synchronizer that starts cleared shows what its input was two ticks before; `input (k + 1)` is the level of
tick `k`. -/
theorem sync2_delayed {n t : Nat} {q : Nat → Sync2} {input : Nat → Level} (hstart : q 0 = ⟨false, false⟩)
    (hshift : ∀ k, k < n → q (k + 1) = sync2Shift (input (k + 1)) (q k)) (ht : t ≤ n) :
    (q t).s2 = if 2 ≤ t then input (t - 1) else false := by
  match t with
  | 0 => rw [hstart]; rfl
  | 1 => rw [hshift 0 ht, hstart]; rfl
  | k + 2 => rw [hshift (k + 1) ht, hshift k (Nat.lt_of_succ_lt ht)]; simp [sync2Shift]

/-- Settles O47: each synchronizer of a TXI or RXI is shifted by its own input in every tick. -/
theorem synchronizerDelay : Obligations.SynchronizerDelay := by
  intro d n σ hrun hlow delayed
  refine ⟨fun c hmem hc hstart => ?tx, fun c hmem hc hstart => ?rx⟩
  case tx =>
    have hshift : ∀ k, k < n →
        (σ (k + 1)).regs.txi.sync = txiSyncShift (σ (k + 1)).inputs (σ k).regs.txi.sync := fun k hk => by
      obtain ⟨⟨levels, rest, hs⟩, h⟩ := hrun k hk
      obtain ⟨hinst, hmembers⟩ := TickRun.inst_members hrun hk.le
      exact step_tick_txiSync hs h (hlow k hk) (hinst ▸ hc) (hmembers ▸ hmem)
    have hdelayed : ∀ (part : TxiSync → Sync2) (input : Inputs → Level),
        part (σ 0).regs.txi.sync = ⟨false, false⟩ →
        (∀ i r, part (txiSyncShift i r) = sync2Shift (input i) (part r)) →
        delayed (fun s => (part s.regs.txi.sync).s2) input := fun part input h0 hpart t ht =>
      sync2_delayed (q := fun k => part (σ k).regs.txi.sync) (input := fun k => input (σ k).inputs) h0
        (fun k hk => (congrArg part (hshift k hk)).trans (hpart _ _)) ht
    rw [hstart] at hdelayed
    exact ⟨hdelayed TxiSync.plllock _ rfl fun _ _ => rfl, hdelayed TxiSync.txresetdone _ rfl fun _ _ => rfl⟩
  case rx =>
    have hshift : ∀ k, k < n →
        (σ (k + 1)).regs.rxi.sync = rxiSyncShift (σ (k + 1)).inputs (σ k).regs.rxi.sync := fun k hk => by
      obtain ⟨⟨levels, rest, hs⟩, h⟩ := hrun k hk
      obtain ⟨hinst, hmembers⟩ := TickRun.inst_members hrun hk.le
      exact step_tick_rxiSync hs h (hlow k hk) (hinst ▸ hc) (hmembers ▸ hmem)
    have hdelayed : ∀ (part : RxiSync → Sync2) (input : Inputs → Level),
        part (σ 0).regs.rxi.sync = ⟨false, false⟩ →
        (∀ i r, part (rxiSyncShift i r) = sync2Shift (input i) (part r)) →
        delayed (fun s => (part s.regs.rxi.sync).s2) input := fun part input h0 hpart t ht =>
      sync2_delayed (q := fun k => part (σ k).regs.rxi.sync) (input := fun k => input (σ k).inputs) h0
        (fun k hk => (congrArg part (hshift k hk)).trans (hpart _ _)) ht
    rw [hstart] at hdelayed
    exact ⟨hdelayed RxiSync.plllock _ rfl fun _ _ => rfl, hdelayed RxiSync.rxresetdone _ rfl fun _ _ => rfl,
      hdelayed RxiSync.rxdlysresetdone _ rfl fun _ _ => rfl, hdelayed RxiSync.rxsyncdone _ rfl fun _ _ => rfl,
      hdelayed RxiSync.rxpmaresetdone _ rfl fun _ _ => rfl⟩

/-! ### What the value of the timer says of the ticks before -/

/-- By tick `t` the timer has come down from `T` to `count` in ticks in which `P` held: in at least `T - count`
consecutive ticks just before `t`. -/
def CountedDown (ticks : Nat) (P : Nat → Prop) (t count : Nat) : Prop :=
  ∃ j, j ≤ t ∧ ticks ≤ count + j ∧ ∀ u, t - j ≤ u → u < t → P u

section
variable {ticks t count : Nat} {P : Nat → Prop}

theorem countedDown_of_reload (t : Nat) (P : Nat → Prop) : CountedDown ticks P t ticks :=
  ⟨0, Nat.zero_le t, le_rfl, fun u hle hlt => by omega⟩

theorem CountedDown.tick (h : CountedDown ticks P t count) (hP : P t) : CountedDown ticks P (t + 1) (count - 1) := by
  obtain ⟨j, hj, hcount, hwindow⟩ := h
  refine ⟨j + 1, by omega, by omega, fun u hle hlt => ?_⟩
  rcases Nat.lt_succ_iff_lt_or_eq.mp hlt with hlt | rfl
  · exact hwindow u (by omega) hlt
  · exact hP

/-- At 0 it has come down through all of the `T` ticks before. -/
theorem CountedDown.full (h : CountedDown ticks P t 0) :
    ticks ≤ t ∧ ∀ u, t - ticks ≤ u → u < t → P u := by
  obtain ⟨j, hj, hcount, hwindow⟩ := h
  exact ⟨by omega, fun u hle hlt => hwindow u (by omega) hlt⟩

end

section
variable {n ticks : Nat} {count : Nat → Nat} {wait : Nat → Level}

/-- Through `j` ticks of `wait` the timer comes down by `j`, as far as 0. -/
theorem timer_le_of_waited (htick : ∀ k, k < n → count (k + 1) = timerNext (wait k) ticks (count k)) {s j : Nat}
    (hs : count s ≤ ticks) (hn : s + j ≤ n) (hwait : ∀ u, s ≤ u → u < s + j → wait u = true) :
    count (s + j) ≤ ticks - j := by
  induction j with
  | zero => exact hs
  | succ j ih =>
    have hbefore := ih (by omega) fun u hle hlt => hwait u hle (by omega)
    rw [← Nat.add_assoc, htick (s + j) (by omega), hwait (s + j) (by omega) (by omega), timerNext, if_pos rfl]
    omega

/-- R183's corner case for a timer that no watchdog reloads. -/
theorem timerDone_iff_waited (htick : ∀ k, k < n → count (k + 1) = timerNext (wait k) ticks (count k))
    (hstart : count 0 = ticks) {t : Nat} (ht : t ≤ n) :
    timerDone (count t) = true ↔ ticks ≤ t ∧ ∀ u, t - ticks ≤ u → u < t → wait u = true := by
  have hbound : ∀ k, k ≤ n → count k ≤ ticks := fun k hk => by
    induction k with
    | zero => exact hstart.le
    | succ k ih => exact htick k hk ▸ timerNext_le (ih (Nat.le_of_succ_le hk))
  have hcounted : ∀ k, k ≤ n → CountedDown ticks (fun u => wait u = true) k (count k) := fun k hk => by
    induction k with
    | zero => exact hstart ▸ countedDown_of_reload 0 _
    | succ k ih =>
      rw [htick k hk, timerNext]
      split
      case isTrue hwait => exact (ih (Nat.le_of_succ_le hk)).tick hwait
      case isFalse => exact countedDown_of_reload _ _
  rw [timerDone, decide_eq_true_iff]
  constructor
  · intro hzero
    exact (hzero ▸ hcounted t ht).full
  · rintro ⟨hle, hwindow⟩
    have hdone := timer_le_of_waited htick (s := t - ticks) (j := ticks) (hbound _ (by omega)) (by omega)
      fun u hu hlt => hwindow u hu (by omega)
    rw [Nat.sub_add_cancel hle] at hdone
    omega

end

/-- Settles O48: without a watchdog nothing but the down-counter writes `count`. -/
theorem timerDoneAfterFullWait : Obligations.TimerDoneAfterFullWait := by
  intro d n σ hrun hlow
  refine ⟨fun c hmem hc hwatchdog hstart t ht => ?tx, fun c hmem hc hwatchdog hstart t ht => ?rx⟩
  case tx =>
    refine timerDone_iff_waited (count := fun k => (σ k).regs.txi.count) (wait := fun k => txiWait (σ k).regs.txi)
      (fun k hk => ?_) hstart ht
    obtain ⟨⟨levels, rest, hs⟩, h⟩ := hrun k hk
    obtain ⟨hinst, hmembers⟩ := TickRun.inst_members hrun hk.le
    have hexpires : txiExpires c (σ k).regs.txi = false := by rw [txiExpires, hwatchdog, watchdogExpires]
    have hcount := step_tick_txiCount hs h (hlow k hk) (hinst ▸ hc) (hmembers ▸ hmem)
    rwa [hexpires] at hcount
  case rx =>
    refine timerDone_iff_waited (count := fun k => (σ k).regs.rxi.count) (wait := fun k => rxiWait (σ k).regs.rxi)
      (fun k hk => ?_) hstart ht
    obtain ⟨⟨levels, rest, hs⟩, h⟩ := hrun k hk
    obtain ⟨hinst, hmembers⟩ := TickRun.inst_members hrun hk.le
    have hexpires : rxiExpires c (σ k).regs.rxi = false := by rw [rxiExpires, hwatchdog, watchdogExpires]
    have hcount := step_tick_rxiCount hs h (hlow k hk) (hinst ▸ hc) (hmembers ▸ hmem)
    rwa [hexpires] at hcount

/-! ### Every tick of a run, with or without reset and watchdog -/

/-- The timer is reloaded, or counts down in a tick of `wait`. -/
theorem linkNextCount_cases (expires wait : Level) (ticks count : Nat) :
    linkNextCount expires wait ticks count = ticks ∨
      (wait = true ∧ linkNextCount expires wait ticks count = count - 1) := by
  cases hexpires : expires with
  | true => exact .inl (linkNextCount_of_reload (.inl rfl))
  | false =>
    cases hwait : wait with
    | true => exact .inr ⟨rfl, linkNextCount_of_wait rfl rfl⟩
    | false => exact .inl (linkNextCount_of_reload (.inr rfl))

/-- What every tick makes of FSM and timer of a TXI: the FSM goes to POWER-DOWN or where its transition leads, and the
timer is reloaded or counts down. -/
structure TxiAdvances (c : TxiConfig) (i : Inputs) (r r' : TxiRegs) : Prop where
  state : r'.state = .powerDown ∨ r'.state = txiTarget i r r.state
  count : r'.count = c.timerTicks ∨ (txiWait r = true ∧ r'.count = r.count - 1)

/-- What every tick makes of FSM and timer of an RXI. -/
structure RxiAdvances (c : RxiConfig) (i : Inputs) (r r' : RxiRegs) : Prop where
  state : r'.state = .powerDown ∨ r'.state = rxiTarget c i r r.state
  count : r'.count = c.timerTicks ∨ (rxiWait r = true ∧ r'.count = r.count - 1)

section
variable {d n k : Nat} {σ : Nat → State}

theorem TickRun.txi_advances {c : TxiConfig} (hrun : TickRun d n σ) (hmem : linkSlots .tx ⊆ members (σ 0) d)
    (hc : (σ 0).inst.txi = some c) (hk : k < n) :
    TxiAdvances c (σ (k + 1)).inputs (σ k).regs.txi (σ (k + 1)).regs.txi := by
  obtain ⟨⟨levels, rest, hs⟩, h⟩ := hrun k hk
  obtain ⟨hinst, hmembers⟩ := TickRun.inst_members hrun hk.le
  rw [← hinst] at hc
  rw [← hmembers] at hmem
  cases hrst : rstLevel (σ (k + 1)) d with
  | true =>
    obtain ⟨-, -, -, -, -, hreset, -⟩ := domainResetRestoresRegisters _ _ _ _ _ hs h hrst
    exact ⟨.inl (congrArg TxiRegs.state (hreset c hmem hc)), .inl (congrArg TxiRegs.count (hreset c hmem hc))⟩
  | false =>
    have hstate := step_tick_txiState hs h hrst hc (hmem (by decide))
    refine ⟨?_, step_tick_txiCount hs h hrst hc (hmem (by decide)) ▸ linkNextCount_cases _ _ _ _⟩
    split at hstate
    · exact .inl hstate
    · exact .inr hstate

theorem TickRun.rxi_advances {c : RxiConfig} (hrun : TickRun d n σ) (hmem : linkSlots .rx ⊆ members (σ 0) d)
    (hc : (σ 0).inst.rxi = some c) (hk : k < n) :
    RxiAdvances c (σ (k + 1)).inputs (σ k).regs.rxi (σ (k + 1)).regs.rxi := by
  obtain ⟨⟨levels, rest, hs⟩, h⟩ := hrun k hk
  obtain ⟨hinst, hmembers⟩ := TickRun.inst_members hrun hk.le
  rw [← hinst] at hc
  rw [← hmembers] at hmem
  cases hrst : rstLevel (σ (k + 1)) d with
  | true =>
    obtain ⟨-, -, -, -, -, -, hreset⟩ := domainResetRestoresRegisters _ _ _ _ _ hs h hrst
    exact ⟨.inl (congrArg RxiRegs.state (hreset c hmem hc)), .inl (congrArg RxiRegs.count (hreset c hmem hc))⟩
  | false =>
    have hstate := step_tick_rxiState hs h hrst hc (hmem (by decide))
    refine ⟨?_, step_tick_rxiCount hs h hrst hc (hmem (by decide)) ▸ linkNextCount_cases _ _ _ _⟩
    rw [rxiNextState] at hstate
    split at hstate
    · exact .inl hstate
    · exact .inr hstate

end

/-! ### The way from POWER-DOWN to READY (R195, R212) -/

/-- A TXI that is not brought back to POWER-DOWN stays or takes the edge of its state, the one from WAIT-INIT-DELAY
with `timer_done`. -/
theorem TxiAdvances.edge {c : TxiConfig} {i : Inputs} {r r' : TxiRegs} (h : TxiAdvances c i r r')
    (hup : r'.state ≠ .powerDown) :
    r'.state = r.state ∨ (r.state = .powerDown ∧ r'.state = .waitPllReset) ∨
      (r.state = .waitPllReset ∧ r'.state = .waitInitDelay) ∨
      (r.state = .waitInitDelay ∧ r.count = 0 ∧ r'.state = .waitGtpReset) ∨
      (r.state = .waitGtpReset ∧ r'.state = .ready) := by
  have hstate := h.state.resolve_left hup
  cases hr : r.state <;> rw [hr, txiTarget_eq] at hstate <;>
    rcases ite_eq_iff.mp hstate.symm with ⟨hcond, hto⟩ | ⟨-, hto⟩
  case powerDown.inl => exact .inr (.inl ⟨rfl, hto.symm⟩)
  case waitPllReset.inl => exact .inr (.inr (.inl ⟨rfl, hto.symm⟩))
  case waitInitDelay.inl => exact .inr (.inr (.inr (.inl ⟨rfl, hcond, hto.symm⟩)))
  case waitGtpReset.inl => exact .inr (.inr (.inr (.inr ⟨rfl, hto.symm⟩)))
  case ready.inl => exact absurd hto.symm hup
  all_goals exact .inl hto.symm

/-- An RXI leaves POWER-DOWN on `timer_done`. -/
theorem RxiAdvances.count_of_leaves {c : RxiConfig} {i : Inputs} {r r' : RxiRegs} (h : RxiAdvances c i r r')
    (hdown : r.state = .powerDown) (hup : r'.state ≠ .powerDown) : r.count = 0 := by
  have hstate := h.state.resolve_left hup
  rw [hdown, rxiTarget_eq] at hstate
  by_contra hcount
  exact hup (hstate.trans (if_neg hcount))

/-- What holds now and did not at first has held since some last tick in which it did not. -/
theorem exists_last_not {Q : Nat → Prop} (h0 : ¬ Q 0) {t : Nat} (ht : Q t) :
    ∃ e, e < t ∧ ¬ Q e ∧ ∀ u, e < u → u ≤ t → Q u := by
  induction t with
  | zero => exact absurd ht h0
  | succ t ih =>
    by_cases hQ : Q t
    case neg => exact ⟨t, Nat.lt_succ_self t, hQ, fun u hlt hle => (Nat.le_antisymm hle hlt : u = t + 1) ▸ ht⟩
    case pos =>
      obtain ⟨e, he, hnot, hsince⟩ := ih hQ
      refine ⟨e, Nat.lt_succ_of_lt he, hnot, fun u hlt hle => ?_⟩
      rcases Nat.le_succ_iff.mp hle with hle | rfl
      · exact hsince u hlt hle
      · exact ht

/-! ### The dwell law of a TXI -/

section
variable {n : Nat} {c : TxiConfig} {r : Nat → TxiRegs} {i : Nat → Inputs}
  (hadv : ∀ k, k < n → TxiAdvances c (i k) (r k) (r (k + 1))) (hstart : (r 0).state = .powerDown)
include hadv hstart

/-- In WAIT-INIT-DELAY the timer has come down in ticks of `plllock_s` in that state: it enters with `T`, which
WAIT-PLL-RESET reloads. -/
theorem txi_countedDown (t : Nat) (ht : t ≤ n) (hstate : (r t).state = .waitInitDelay) :
    CountedDown c.timerTicks (fun u => (r u).sync.plllock.s2 = true ∧ (r u).state = .waitInitDelay) t
      (r t).count := by
  induction t with
  | zero => rw [hstart] at hstate; cases hstate
  | succ t ih =>
    have hprev : (r t).state = .waitPllReset ∨ (r t).state = .waitInitDelay := by
      rcases (hadv t ht).edge (by rw [hstate]; decide) with h | ⟨-, h⟩ | ⟨h, -⟩ | ⟨-, -, h⟩ | ⟨-, h⟩
      · exact .inr (h.symm.trans hstate)
      · cases hstate.symm.trans h
      · exact .inl h
      · cases hstate.symm.trans h
      · cases hstate.symm.trans h
    rcases (hadv t ht).count with hreload | ⟨hwait, hdown⟩
    · exact hreload ▸ countedDown_of_reload _ _
    · rcases hprev with hprev | hprev
      · rcases txiWait_iff.mp hwait with h | ⟨h, -⟩ <;> cases hprev.symm.trans h
      · obtain ⟨-, hlock⟩ := (txiWait_iff.mp hwait).resolve_left (by rw [hprev]; decide)
        exact hdown ▸ (ih (Nat.le_of_succ_le ht) hprev).tick ⟨hlock, hprev⟩

/-- The edge from WAIT-INIT-DELAY comes after `T` ticks of `plllock_s` in that state. -/
theorem txi_dwell {t : Nat} (ht : t < n) (hfrom : (r t).state = .waitInitDelay)
    (hto : (r (t + 1)).state = .waitGtpReset) :
    c.timerTicks ≤ t ∧ ∀ u, t - c.timerTicks ≤ u → u < t →
      (r u).sync.plllock.s2 = true ∧ (r u).state = .waitInitDelay := by
  have hcount : (r t).count = 0 := by
    rcases (hadv t ht).edge (by rw [hto]; decide) with h | ⟨h, -⟩ | ⟨h, -⟩ | ⟨-, h, -⟩ | ⟨h, -⟩
    · cases (hfrom.symm.trans h.symm).trans hto
    · cases hfrom.symm.trans h
    · cases hfrom.symm.trans h
    · exact h
    · cases hfrom.symm.trans h
  exact (hcount ▸ txi_countedDown hadv hstart t ht.le hfrom).full

/-- WAIT-GTP-RESET and READY are reached by that edge only. -/
theorem txi_ready_since_dwell {t : Nat} (ht : t ≤ n) (hready : (r t).state = .ready) :
    ∃ e, e < t ∧ (r e).state = .waitInitDelay ∧ (r (e + 1)).state = .waitGtpReset ∧
      ∀ u, e < u → u ≤ t → (r u).state ≠ .powerDown := by
  obtain ⟨e, he, hbefore, hsince⟩ := exists_last_not
    (Q := fun u => (r u).state = .waitGtpReset ∨ (r u).state = .ready) (by simp [hstart]) (.inr hready)
  have hnext := hsince (e + 1) (Nat.lt_succ_self e) he
  have hup : ∀ u, e < u → u ≤ t → (r u).state ≠ .powerDown := fun u hlt hle => by
    rcases hsince u hlt hle with h | h <;> rw [h] <;> decide
  refine ⟨e, he, ?_⟩
  rcases (hadv e (lt_of_lt_of_le he ht)).edge (hup (e + 1) (Nat.lt_succ_self e) he) with
    h | ⟨-, h⟩ | ⟨-, h⟩ | ⟨h, -, h'⟩ | ⟨h, -⟩
  · exact absurd (h ▸ hnext) hbefore
  · rw [h] at hnext; simp at hnext
  · rw [h] at hnext; simp at hnext
  · exact ⟨h, h', hup⟩
  · exact absurd (.inl h) hbefore

end

/-- Settles O51: WAIT-INIT-DELAY is entered with a full timer, and READY is reached through it. -/
theorem txDwellLaw : Obligations.TxDwellLaw := by
  intro d n σ c hrun hmem hc hstart
  have hadv : ∀ k, k < n → TxiAdvances c (σ (k + 1)).inputs (σ k).regs.txi (σ (k + 1)).regs.txi := fun k hk =>
    TickRun.txi_advances hrun hmem hc hk
  refine ⟨fun t ht hfrom hto => txi_dwell (r := fun k => (σ k).regs.txi) hadv hstart ht hfrom hto,
    fun t ht hready => ?_⟩
  obtain ⟨e, he, hfrom, hto, hup⟩ := txi_ready_since_dwell (r := fun k => (σ k).regs.txi) hadv hstart ht hready
  obtain ⟨hticks, hwindow⟩ :=
    txi_dwell (r := fun k => (σ k).regs.txi) hadv hstart (lt_of_lt_of_le he ht) hfrom hto
  refine ⟨e, hticks, he, fun u hle hlt => (hwindow u hle hlt).1, fun u hle hlt => ?_⟩
  rcases lt_trichotomy u e with hu | rfl | hu
  · rw [(hwindow u hle hu).2]; decide
  · rw [hfrom]; decide
  · exact hup u hu hlt

/-! ### The dwell law of an RXI -/

section
variable {n : Nat} {c : RxiConfig} {r : Nat → RxiRegs} {i : Nat → Inputs}
  (hadv : ∀ k, k < n → RxiAdvances c (i k) (r k) (r (k + 1)))
include hadv

/-- The timer comes down in ticks of `plllock_s` only. -/
theorem rxi_countedDown (hcount : (r 0).count = c.timerTicks) (t : Nat) (ht : t ≤ n) :
    CountedDown c.timerTicks (fun u => (r u).sync.plllock.s2 = true) t (r t).count := by
  induction t with
  | zero => exact hcount ▸ countedDown_of_reload 0 _
  | succ t ih =>
    rcases (hadv t ht).count with hreload | ⟨hwait, hdown⟩
    · exact hreload ▸ countedDown_of_reload _ _
    · exact hdown ▸ (ih (Nat.le_of_succ_le ht)).tick (rxiWait_iff.mp hwait).2

/-- POWER-DOWN is left after `T` ticks of `plllock_s`. -/
theorem rxi_dwell (hcount : (r 0).count = c.timerTicks) {t : Nat} (ht : t < n) (hdown : (r t).state = .powerDown)
    (hup : (r (t + 1)).state ≠ .powerDown) :
    c.timerTicks ≤ t ∧ ∀ u, t - c.timerTicks ≤ u → u < t → (r u).sync.plllock.s2 = true :=
  ((hadv t ht).count_of_leaves hdown hup ▸ rxi_countedDown hadv hcount t ht.le).full

end

/-- Settles O52: the timer is full when POWER-DOWN is entered, and every other state is reached from there. -/
theorem rxDwellLaw : Obligations.RxDwellLaw := by
  intro d n σ c hrun hmem hc hstart hcount
  have hadv : ∀ k, k < n → RxiAdvances c (σ (k + 1)).inputs (σ k).regs.rxi (σ (k + 1)).regs.rxi := fun k hk =>
    TickRun.rxi_advances hrun hmem hc hk
  refine ⟨fun t ht hdown hnext =>
    rxi_dwell (r := fun k => (σ k).regs.rxi) hadv hcount ht hdown (by simp [hnext]), fun t ht hready => ?_⟩
  obtain ⟨e, he, hdown, hup⟩ := exists_last_not (Q := fun u => (σ u).regs.rxi.state ≠ .powerDown)
    (not_not.mpr hstart) (t := t) (by rw [hready]; decide)
  obtain ⟨hticks, hwindow⟩ := rxi_dwell (r := fun k => (σ k).regs.rxi) hadv hcount (lt_of_lt_of_le he ht)
    (not_not.mp hdown) (hup (e + 1) (Nat.lt_succ_self e) he)
  exact ⟨e, hticks, he, hwindow, not_not.mp hdown, hup⟩

end Sys2Proof.Proofs
end

section
/-! A configuration operation fails closed (R240, R241, R248): which causes a configuration function can answer, and what
the operation makes of its outcome. -/

namespace Sys2Proof.Proofs

open Sys2Proof.Machine Sys2Proof.Safety

/-! ### The causes of R241, unit by unit -/

section
variable {cause : ConfigCause}

/-- A configuration function with a single check has a single cause. -/
theorem cause_of_check {α : Type} {bad : Prop} [Decidable bad] {e : ConfigCause} {c : α}
    (h : (if bad then .error e else .ok c) = Except.error cause) : cause ∈ [e] := by
  split at h <;> cases h
  exact List.mem_singleton_self _

theorem cause_of_buildNco {p : NcoParams} (h : buildNco p = .error cause) :
    cause ∈ [ConfigCause.ncoNoPeriod, .ncoBadParameter] := by
  rw [buildNco] at h
  split at h
  case isTrue => cases h; simp
  case isFalse =>
    dsimp only at h
    split at h
    · cases h; simp
    · split at h <;> cases h
      simp

theorem cause_of_buildMatch {p : MatchParams} (h : buildMatch p = .error cause) :
    cause ∈ [ConfigCause.corrBadParameter] :=
  cause_of_check h

theorem cause_of_buildAcq {interval : ℤ} {p : AcqParams} (h : buildAcq interval p = .error cause) :
    cause ∈ [ConfigCause.corrBadParameter] :=
  cause_of_check h

theorem cause_of_buildCordic {p : CordicParams} (h : buildCordic p = .error cause) :
    cause ∈ [ConfigCause.cordicBadParameter] :=
  cause_of_check h

theorem cause_of_buildSeq {p : SeqParams} (h : buildSeq p = .error cause) :
    cause ∈ [ConfigCause.seqBadWindow, .seqEmptyPacket, .seqSymbolRange, .seqWordWidth] := by
  rw [buildSeq] at h
  split at h
  case isTrue => cases h; simp
  case isFalse =>
    split at h
    case isTrue => cases h; simp
    case isFalse =>
      dsimp only at h
      split at h
      case isTrue => cases h; simp
      case isFalse => simp [List.mem_singleton.mp (cause_of_check h)]

theorem cause_of_buildTxi {p : TxiParams} (h : buildTxi p = .error cause) : cause ∈ [ConfigCause.linkBadClock] :=
  cause_of_check h

theorem cause_of_buildRxi {p : RxiParams} (h : buildRxi p = .error cause) : cause ∈ [ConfigCause.linkBadClock] :=
  cause_of_check h

end

/-! ### The answer of a configuration operation -/

/-- An instance and no error, or the exception with a cause that the configuration function can answer. `Installed` is
what an installation establishes. -/
theorem configureWith_failsClosed {α : Type} {s : State} {call : ConfigCall} {outcome : Except ConfigCause α}
    {install : State → α → State} {Installed : State → Prop} {causes : List ConfigCause}
    (hinstall : ∀ c, (install s c).error = none ∧ Installed (install s c))
    (hcauses : ∀ {cause}, outcome = .error cause → cause ∈ causes) :
    ∃ t, configureWith s call outcome install = .next t ∧
      ((t.error = none ∧ Installed t) ∨ ∃ cause ∈ causes, t = s.raiseConfigurationError call cause) := by
  cases outcome with
  | ok c => exact ⟨_, rfl, .inl (hinstall c)⟩
  | error cause => exact ⟨_, rfl, .inr ⟨cause, hcauses rfl, rfl⟩⟩

/-- Settles O57: each of the seven operations is `configureWith` of its unit's configuration function. -/
theorem configurationFailsClosed : Obligations.ConfigurationFailsClosed := fun _ =>
  ⟨configureWith_failsClosed (fun _ => ⟨rfl, rfl⟩) cause_of_buildNco,
    configureWith_failsClosed (fun _ => ⟨rfl, rfl⟩) cause_of_buildMatch,
    configureWith_failsClosed (fun _ => ⟨rfl, rfl⟩) cause_of_buildAcq,
    configureWith_failsClosed (fun _ => ⟨rfl, rfl⟩) cause_of_buildCordic,
    configureWith_failsClosed (fun _ => ⟨rfl, rfl⟩) cause_of_buildSeq,
    configureWith_failsClosed (fun _ => ⟨rfl, rfl⟩) cause_of_buildTxi,
    configureWith_failsClosed (fun _ => ⟨rfl, rfl⟩) cause_of_buildRxi⟩

end Sys2Proof.Proofs
end
